-- ==== Sys2Proof/Word.lean ====
section
/-! DEFINITION. The word types of the SDS011 frame protocol block (spec 00_scope.md R7): every frame cell is an
unsigned byte, the device ID and the raw PM fields are unsigned 16-bit values, and no value is signed. -/

namespace Sys2Proof

/-- One frame cell: an unsigned 8-bit byte (R7). -/
abbrev Byte := BitVec 8

/-- An unsigned 16-bit value: a device ID or a raw PM field (R7). -/
abbrev Half := BitVec 16

/-- A 19-byte command frame, index 0 first on the wire (R8, R46, R61). -/
abbrev Frame19 := Vector Byte 19

/-- A 10-byte response frame, index 0 first on the wire (R8, R46, R62). -/
abbrev Frame10 := Vector Byte 10

/-- The 12 payload bytes of a command frame, bytes 3 to 14 of it (R61). -/
abbrev Payload := Vector Byte 12

end Sys2Proof
end

