-- ==== Sys2Proof/Config.lean ====
section
/-! DEFINITION. The implementation parameters of spec 00_scope.md R6: the retry bounds a model takes as arguments, with
the values this hardware takes as their defaults; the parameters R6 calls fixed; and the one parameter the spec leaves
OPEN (`PM_HIGH_FIRST`), as a constant without a body. -/

namespace Sys2Proof

/-- The retry bounds, which a model takes as parameters (R6, 93 U17). A state carries them, and every meaning reads them
from there (log entry 12). -/
structure Params where
  /-- `MAX_READS`: read attempts an acknowledgement wait or a measurement wait may make before Timeout. -/
  maxReads : Nat
  /-- `POLLS_PER_CYCLE`: failed bootstrap polls after which the firmware request is resent. -/
  pollsPerCycle : Nat
  /-- `MAX_CYCLES`: bootstrap send cycles before Unreachable, the first send counted (decision D14, 93 U19). -/
  maxCycles : Nat
deriving DecidableEq, Repr

/-- The legal range of each retry bound: at least 1 (R6). -/
def Params.legal (p : Params) : Bool :=
  decide (1 ≤ p.maxReads) && decide (1 ≤ p.pollsPerCycle) && decide (1 ≤ p.maxCycles)

/-- The default values of R6, which are the values this hardware takes. -/
def Config.defaults : Params := { maxReads := 20, pollsPerCycle := 2, maxCycles := 10 }

/-- `PERIOD_MAX` (R6, fixed): the largest legal working period, in minutes. -/
def Config.periodMax : Nat := 30

/-- `DEVICE_ID_UNKNOWN` (R6, fixed): the reset value of `device_id`. -/
def Config.deviceIdUnknown : Half := 0xFFFF

/-- `PM_HIGH_FIRST` (R6, R45, decision D4, 93 U1): whether the high byte of each PM field sits at the lower frame
index. The spec leaves it OPEN, so it has no body here and a statement holds for both values (log entry 2). -/
opaque Config.pmHighFirst : Bool

/-- `POLL_INTERVAL` (R6, R250) in milliseconds: the host's delay before each bootstrap poll. Timing only: no rule of the
block reads it. -/
def Config.pollIntervalMs : Nat := 10

/-- `WARMUP` (R6, R246, R250) in seconds (the spec says: about 30): guidance to the host. Timing only: no rule of the
block reads it. -/
def Config.warmupSeconds : Nat := 30

end Sys2Proof
end

