-- ==== Sys2Proof/Syntax.lean ====
section
/-! DEFINITION. The instructions of the block: one constructor per row of spec/opcode_table.json, which holds the 19 host
operations (spec 30_encoding.md R71), the 9 command frame types the block assembles (R68) and the 6 response frame types
it decodes (R69). Beside them stand the two transport outcomes a host operation carries (43_sync_fsm.md R170) and the
encoded form in which a host event reaches the block. -/

namespace Sys2Proof

/-- The transport's answer to the write a step makes (R8, R170): `Ok(n)` with `n` the byte count, or `Err`. A free input:
no value of it is excluded. -/
inductive WriteOutcome where
  | ok (n : Nat)
  | err
deriving DecidableEq, Repr

/-- The outcome of one transport read (R8, R170): `Ok(chunk)` with a byte list of any length, the empty one included, or
`Err`. A free input. -/
inductive ReadOutcome where
  | ok (chunk : List Byte)
  | err
deriving DecidableEq, Repr

/-- One constructor per row of spec/opcode_table.json, in the table's order. The operand types are the interface types of
R71 and R72: a mode of 2 or an ID of 17 bits cannot be formed. -/
inductive Instr where
  /-- CKSUM19 (R101). -/
  | cksum19 (f : Frame19)
  /-- CKSUM10 (R102). -/
  | cksum10 (f : Frame10)
  /-- ASSEMBLE (R110). -/
  | assemble (cmd : Byte) (payload : Payload)
  /-- DECODE10 (R140). -/
  | decode10 (b : List Byte)
  /-- PARSE19 (R150). -/
  | parse19 (b : List Byte)
  /-- BOOT (R190), with the write outcome of the first firmware request. -/
  | boot (w : WriteOutcome)
  /-- READ (R193), with the write outcome of a bootstrap resend. -/
  | read (r : ReadOutcome) (w : WriteOutcome)
  /-- AWAIT_ACK (R186). -/
  | awaitAck
  /-- READ_MEAS (R187). -/
  | readMeas
  /-- GET_REPORT_MODE (R177). -/
  | getReportMode (w : WriteOutcome)
  /-- SET_REPORT_MODE (R178): 0 is stream, 1 is query. -/
  | setReportMode (m : BitVec 1) (w : WriteOutcome)
  /-- QUERY_DATA (R179). -/
  | queryData (w : WriteOutcome)
  /-- SET_DEVICE_ID (R180). -/
  | setDeviceId (id : Half) (w : WriteOutcome)
  /-- GET_SLEEP (R181). -/
  | getSleep (w : WriteOutcome)
  /-- SET_SLEEP (R182): 0 is sleep, 1 is work. -/
  | setSleep (m : BitVec 1) (w : WriteOutcome)
  /-- GET_FIRMWARE (R183). -/
  | getFirmware (w : WriteOutcome)
  /-- GET_PERIOD (R184). -/
  | getPeriod (w : WriteOutcome)
  /-- SET_PERIOD (R185), in minutes. -/
  | setPeriod (v : Byte) (w : WriteOutcome)
  /-- RESET (R240). -/
  | reset
  /-- TX.REPORT_MODE.GET (R112). `stamp` is bytes 15..16 of the frame word and `ck` its byte 17: bits of the encoding
  that the table's mask leaves free. They are no operands of the packer, which writes its own (log entry 5). -/
  | txReportModeGet (stamp : Half) (ck : Byte)
  /-- TX.REPORT_MODE.SET (R113): byte 4 is the 1-bit mode. -/
  | txReportModeSet (m : BitVec 1) (stamp : Half) (ck : Byte)
  /-- TX.QUERY_DATA (R114). -/
  | txQueryData (stamp : Half) (ck : Byte)
  /-- TX.SET_DEVICE_ID (R115): bytes 13..14 are the new ID. -/
  | txSetDeviceId (newId : Half) (stamp : Half) (ck : Byte)
  /-- TX.SLEEP.GET (R116). -/
  | txSleepGet (stamp : Half) (ck : Byte)
  /-- TX.SLEEP.SET (R117): byte 4 is the 1-bit mode. -/
  | txSleepSet (m : BitVec 1) (stamp : Half) (ck : Byte)
  /-- TX.FIRMWARE (R118). -/
  | txFirmware (stamp : Half) (ck : Byte)
  /-- TX.PERIOD.GET (R119). -/
  | txPeriodGet (stamp : Half) (ck : Byte)
  /-- TX.PERIOD.SET (R120): byte 4 is the period in minutes. -/
  | txPeriodSet (v : Byte) (stamp : Half) (ck : Byte)
  /-- RX.MEASUREMENT (R143): bytes 2..5 are the PM bytes A and B of R62, `id` is bytes 6..7 and `ck` byte 8. -/
  | rxMeasurement (pm25A pm25B pm10A pm10B : Byte) (id : Half) (ck : Byte)
  /-- RX.ACK.REPORT_MODE (R144): byte 5 is ignored. -/
  | rxAckReportMode (typeFlag modeOrValue ignored5 : Byte) (id : Half) (ck : Byte)
  /-- RX.ACK.SLEEP (R145): byte 5 is ignored. -/
  | rxAckSleep (typeFlag modeOrValue ignored5 : Byte) (id : Half) (ck : Byte)
  /-- RX.ACK.PERIOD (R146): byte 5 is ignored. -/
  | rxAckPeriod (typeFlag modeOrValue ignored5 : Byte) (id : Half) (ck : Byte)
  /-- RX.ACK.FIRMWARE (R147). -/
  | rxAckFirmware (year month day : Byte) (id : Half) (ck : Byte)
  /-- RX.ACK.DEVICE_ID (R148): bytes 3 to 5 are ignored. -/
  | rxAckDeviceId (ignored3 ignored4 ignored5 : Byte) (id : Half) (ck : Byte)
deriving DecidableEq, Repr

/-- The three formats of spec/opcode_table.json (R60, R71): a host operation, a 19-byte command frame, a 10-byte response
frame. -/
inductive Format where
  | hostOp
  | cmd19
  | rsp10
deriving DecidableEq, Repr

/-- One event as it reaches the block: its format, its bytes (the 8-bit OP and then its operand bytes, or the frame's
bytes from index 0) and the transport's answer to the write the step may make (R170: `step(state, event, w)`). The byte
layout of the operands is the model's own (log entry 4). -/
structure Event where
  format : Format
  bytes : List Byte
  w : WriteOutcome
deriving DecidableEq, Repr

end Sys2Proof
end

