-- ==== Sys2Proof/Machine/State.lean ====
section
/-! DEFINITION. The state of the block as plain data (spec 10_state.md R20 to R30), the two outputs of the latest step
(R33), the host events not yet taken (20_memory.md R49), the values `result` can hold (R30), and the reasons a step can
stop. -/

namespace Sys2Proof.Machine

/-- The transmit space of R40: a list of (index, byte) pairs in one canonical form, the indices strictly rising and no
entry equal to what an unlisted index reads as. -/
abbrev Memory := List Host.Cell

/-- What an unlisted index of the transmit space reads as: the reset value of `tx_buf` (R24, R240). -/
def Memory.unlisted : Byte := 0x00

/-- The frame errors of the decoders (R140, R150, R211). -/
inductive FrameError where
  | badLength
  | badFraming
  | checksumMismatch
  | unknownCommand
deriving DecidableEq, Repr

/-- The status codes of spec 60_exceptions.md R210; their numbers are `Status.code`. -/
inductive Status where
  | ok
  | busy
  | badLength
  | badFraming
  | checksumMismatch
  | unknownCommand
  | timeout
  | outOfRange
  | unreachable
  | ioError
  | requestPending
  | wrongState
  | illegalOp
deriving DecidableEq, Repr

/-- `fsm_state` (R25). The reserved values 6 and 7 are never entered, so the type excludes them (93 U7). -/
inductive FsmState where
  | unconnected
  | boot
  | idle
  | awaitAck
  | awaitMeas
  | failed
deriving DecidableEq, Repr

/-- A decoded response (R30, R143 to R148): a tagged variant, each with exactly its own fields. -/
inductive ParsedResponse where
  | measurement (pm25Raw pm10Raw deviceId : Half)
  | configAck (commandId typeFlag modeOrValue : Byte) (deviceId : Half)
  | firmwareAck (year month day : Byte) (deviceId : Half)
  | deviceIdAck (deviceId : Half)
deriving DecidableEq, Repr

/-- A parsed command frame (R150). -/
structure ParsedCommand where
  commandId : Byte
  payload : Payload
  deviceId : Half
deriving DecidableEq, Repr

/-- The outcome of decoding a chunk (R33, R140). -/
inductive DecodeOutcome where
  | ok (p : ParsedResponse)
  | err (e : FrameError)
deriving DecidableEq, Repr

/-- The outcome of parsing a command frame (R150). -/
inductive ParseOutcome where
  | ok (c : ParsedCommand)
  | err (e : FrameError)
deriving DecidableEq, Repr

/-- A value of `result` (R30). NONE is the `none` of the field's Option. -/
inductive Value where
  | response (p : ParsedResponse)
  | command (c : ParsedCommand)
  | checksum (c : Byte)
  | frame (f : Frame19)
deriving DecidableEq, Repr

/-- Why a step can fault. -/
inductive Fault where
  /-- Raised by `step` alone, when no host event is pending: the block takes one step per host event (R170), so without one
  there is no step (R195: the stall is the host's). Safe: the model stops where the block only waits. -/
  | noHostEvent
deriving DecidableEq, Repr

/-- Why a step can be refused. -/
inductive Refusal where
  /-- Raised by an arm of `exec` whose instruction has no meaning yet; no arm of this model raises it. Safe. -/
  | notModelled (mnemonic : String)
  /-- Raised by `step` when a host event has a listed OP but its operand bytes do not spell operands of the interface types:
  such an event cannot be formed, and it is refused by name (R72, 93 U9). Safe: the model stops. -/
  | operandNotFormed (op : Byte)
  /-- Raised by `step` when a host event carries no OP byte at all: no host event has that form (R71). Safe: the model
  stops. -/
  | eventWithoutOp
  /-- Raised by `step` when the bytes of a command-frame event are not a frame type of R68, or hold a mode that is not 1 bit
  (R72, 93 U9): no packer builds such a frame. Safe: the model stops. -/
  | noSuchCommandFrame
deriving DecidableEq, Repr

/-- The state of the block. -/
structure State where
  /-- `pending_request`, 1 bit (R22). -/
  pendingRequest : Bool
  /-- `device_id`, 16 bits (R23). -/
  deviceId : Half
  /-- `tx_buf[0..18]`, 19 bytes (R24). -/
  txBuf : Memory
  /-- `fsm_state` (R25). -/
  fsmState : FsmState
  /-- `read_count` (R26). -/
  readCount : Nat
  /-- `poll_count` (R27). -/
  pollCount : Nat
  /-- `cycle_count` (R28). -/
  cycleCount : Nat
  /-- `status` (R29). -/
  status : Status
  /-- `result` (R30), `none` for NONE. -/
  result : Option Value
  /-- `tx_out`, an output of the latest step (R33, R173), held here because a step answers a state only (log entry 6). -/
  txOut : Option Frame19
  /-- `decode_out`, an output of the latest step (R33, R173), held here for the same reason (log entry 6). -/
  decodeOut : Option DecodeOutcome
  /-- The retry bounds of the block (R6, 93 U17): parameters of the model, which no step changes (log entry 12). -/
  params : Params
  /-- The host events not yet taken, the next one first (R49, R170): the host's input, not state of the spec's
  (log entry 3). -/
  inbox : List Event
deriving DecidableEq, Repr

/-- The block right after RESET, which is also power-on (spec 70_reset_and_hazards.md R240, R241), with no host event
placed and the retry bounds at the values this hardware takes (00_scope.md R6). -/
def State.reset : State where
  pendingRequest := false
  deviceId := Config.deviceIdUnknown
  txBuf := []
  fsmState := .unconnected
  readCount := 0
  pollCount := 0
  cycleCount := 0
  status := .ok
  result := none
  txOut := none
  decodeOut := none
  params := Config.defaults
  inbox := []

end Sys2Proof.Machine
end

