-- ==== Sys2Proof/Machine/Flags.lean ====
section
/-! DEFINITION. The block's one flag, `pending_request` (spec 10_state.md R22, R31), the command class that sets it
(41_assembler.md R121), and the class of responses that clears it (00_scope.md R10, 43_sync_fsm.md R188 and R191). -/

namespace Sys2Proof.Machine

/-- `is_config(cmd)` (R121): every command id but the data query's. -/
def isConfig (cmd : Byte) : Bool := cmd != 0x04

/-- What sending `cmd` leaves in `pending_request`, before the write (R174): a configuration command sets it, the data
query leaves it. -/
def pendingAfterSend (cmd : Byte) (pending : Bool) : Bool := isConfig cmd || pending

/-- An acknowledgement (R10): a response with tag 0xC5, that is any variant but a measurement. -/
def isAck : ParsedResponse → Bool
  | .measurement _ _ _ => false
  | .configAck _ _ _ _ => true
  | .firmwareAck _ _ _ _ => true
  | .deviceIdAck _ => true

/-- A measurement (R143). -/
def isMeasurement (p : ParsedResponse) : Bool := !isAck p

end Sys2Proof.Machine
end

