-- ==== Sys2Proof/Machine/Operands.lean ====
section
/-! DEFINITION. The operand forms of the block: bytes of a byte list, 16-bit fields and their byte order (spec
20_memory.md R42 to R45, 30_encoding.md R67), the checksum over a byte range (40_checksum.md R100), the byte layouts of
the two frame formats (R61, R62), and which transport outcome counts as success (R171). -/

namespace Sys2Proof.Machine

/-- `b[i]` (R8). Every rule checks the length first or takes a fixed-size operand, so an index outside the list is never
formed (R40). -/
def byteAt (b : List Byte) (i : Nat) : Byte := b.getD i 0

/-- `v[7:0]` (R8). -/
def lowByte (v : Half) : Byte := BitVec.ofNat 8 v.toNat

/-- `v[15:8]` (R8). -/
def highByte (v : Half) : Byte := BitVec.ofNat 8 (v.toNat / 256)

/-- A 16-bit value from two bytes, `hi*256+lo` (R8, R67). -/
def ofHighLow (hi lo : Byte) : Half := BitVec.ofNat 16 (hi.toNat * 256 + lo.toNat)

/-- A device ID from the byte at the lower index and the byte at the higher index: little-endian (R42, R43). -/
def deviceIdOf (lower higher : Byte) : Half := ofHighLow higher lower

/-- A raw PM field from the byte at the lower index and the byte at the higher index (R45): which of them is `high` is the
open parameter `PM_HIGH_FIRST`. -/
def pmRawOf (lower higher : Byte) : Half :=
  if Config.pmHighFirst then ofHighLow lower higher else ofHighLow higher lower

/-- `zext_8(m)` of a 1-bit mode operand (R67). -/
def modeByte (m : BitVec 1) : Byte := BitVec.ofNat 8 m.toNat

/-- `sum8(b, lo, hi)` (R100): the natural-number sum of `b[lo..hi]`, truncated to 8 bits. -/
def sum8 (b : List Byte) (lo hi : Nat) : Byte :=
  BitVec.ofNat 8 (((b.drop lo).take (hi + 1 - lo)).map BitVec.toNat).sum

/-- The bytes of a `CMD19` frame (R61) with the stamp and the checksum byte as given. -/
def cmdBytes (cmd : Byte) (payload : Payload) (stamp : Half) (ck : Byte) : List Byte :=
  [0xAA, 0xB4, cmd] ++ payload.toList ++ [lowByte stamp, highByte stamp, ck, 0xAB]

/-- The bytes of an `RSP10` frame (R62) with the checksum byte as given. -/
def rspBytes (tag b2 b3 b4 b5 : Byte) (id : Half) (ck : Byte) : List Byte :=
  [0xAA, tag, b2, b3, b4, b5, lowByte id, highByte id, ck, 0xAB]

/-- A payload of twelve zero bytes (R61: zero padding). -/
def zeroPayload : Payload := #v[0, 0, 0, 0, 0, 0, 0, 0, 0, 0, 0, 0]

/-- The payload of a set command: the set-flag 1 at byte 3 and the value at byte 4 of the frame (R65, R66, R68). -/
def setPayload (v : Byte) : Payload := #v[0x01, v, 0, 0, 0, 0, 0, 0, 0, 0, 0, 0]

/-- The payload of SET_DEVICE_ID: the new ID, low byte first, at bytes 13 and 14 of the frame (R44, R115). -/
def newIdPayload (id : Half) : Payload := #v[0, 0, 0, 0, 0, 0, 0, 0, 0, 0, lowByte id, highByte id]

/-- A write is successful only when the outcome is `Ok(19)` (R171, decision D17). -/
def writeOk : WriteOutcome → Bool
  | .ok n => n == 19
  | .err => false

end Sys2Proof.Machine
end

