-- ==== Sys2Proof/Machine/Ops.lean ====
section
/-! DEFINITION. The named operations every meaning is written over: the transmit space (spec 20_memory.md R40), frame
assembly and the send primitive (41_assembler.md R110, 43_sync_fsm.md R174), the two decoders (42_disassembler.md R140 and
R150), how a step ends (43_sync_fsm.md R173), how an error is raised (60_exceptions.md R221: the block has no traps, and
raising a status code is all there is of an exception), and which event each state accepts (43_sync_fsm.md R172). -/

namespace Sys2Proof.Machine

/-! ### The transmit space -/

/-- `MemRead(a, 1)` (R8): the byte at index `a`. -/
def Memory.read : Memory → Nat → Byte
  | [], _ => Memory.unlisted
  | (b, v) :: m, a => if a = b then v else Memory.read m a

/-- `MemWrite(a, 1, v)` (R8), keeping the canonical form: writing what an unlisted index reads as removes the entry. -/
def Memory.write : Memory → Nat → Byte → Memory
  | [], a, v => if v = Memory.unlisted then [] else [(a, v)]
  | (b, x) :: m, a, v =>
    if a < b then (if v = Memory.unlisted then (b, x) :: m else (a, v) :: (b, x) :: m)
    else if a = b then (if v = Memory.unlisted then m else (a, v) :: m)
    else (b, x) :: Memory.write m a v

/-- Write a byte list at rising indices from `a` on. -/
def Memory.writeBytes : Memory → Nat → List Byte → Memory
  | m, _, [] => m
  | m, a, v :: vs => Memory.writeBytes (Memory.write m a v) (a + 1) vs

/-- The canonical form of the transmit space: the listed indices rise strictly, and no listed byte is what an unlisted
index reads as. -/
def Memory.wf (m : Memory) : Bool :=
  decide (m.Pairwise fun c d => c.1 < d.1) && m.all fun c => c.2 != Memory.unlisted

/-- No index outside `tx_buf[0..18]` is listed (R40: an index outside is never formed). -/
def Memory.inTxBuf (m : Memory) : Bool := m.all (fun c => decide (c.1 < 19))

/-! ### How a step ends -/

/-- The end of a step (R173): every step writes `status`, `result` and both outputs. -/
def complete (st : Status) (res : Option Value) (tx : Option Frame19) (dec : Option DecodeOutcome) (s : State) : State :=
  { s with status := st, result := res, txOut := tx, decodeOut := dec }

/-- `raise <Status>` (R8) where no transport access was made: only `status` and `result` (NONE) are written, and both
outputs are NONE (R173, R213, R216 to R218, R221). This is the block's one way of taking an exception: it saves no state
and transfers no control, so there is nothing to return from (R222). -/
def raise (st : Status) (s : State) : State := complete st none none none s

/-- The status code a frame error is reported with (R210, R211). -/
def FrameError.toStatus : FrameError → Status
  | .badLength => .badLength
  | .badFraming => .badFraming
  | .checksumMismatch => .checksumMismatch
  | .unknownCommand => .unknownCommand

/-- The numeric status codes (R210). -/
def Status.code : Status → Byte
  | .ok => 0x00
  | .busy => 0x01
  | .badLength => 0x02
  | .badFraming => 0x03
  | .checksumMismatch => 0x04
  | .unknownCommand => 0x05
  | .timeout => 0x06
  | .outOfRange => 0x07
  | .unreachable => 0x08
  | .ioError => 0x09
  | .requestPending => 0x0A
  | .wrongState => 0x0B
  | .illegalOp => 0x0C

/-- The 3-bit encodings of `fsm_state` (R25). -/
def FsmState.code : FsmState → BitVec 3
  | .unconnected => 0
  | .boot => 1
  | .idle => 2
  | .awaitAck => 3
  | .awaitMeas => 4
  | .failed => 5

/-- A host event with a reserved OP (R72, R218): IllegalOp in every state, checked before the state is looked at. -/
def illegalOp (s : State) : State := raise .illegalOp s

/-! ### Gating -/

/-- The rows of the gating table of R172. -/
inductive EventClass where
  /-- CKSUM19, CKSUM10, ASSEMBLE, DECODE10, PARSE19. -/
  | pureOp
  /-- BOOT. -/
  | bootOp
  /-- AWAIT_ACK, READ_MEAS and the command operations 0x20 to 0x28. -/
  | idleOp
deriving DecidableEq, Repr

/-- The busy states (R25): in the middle of an operation. -/
def busy : FsmState → Bool
  | .unconnected => false
  | .boot => true
  | .idle => false
  | .awaitAck => true
  | .awaitMeas => true
  | .failed => false

/-- Which state accepts an event of the class (R172). READ and RESET look at the state themselves (R193, R240). -/
def accepts (c : EventClass) (f : FsmState) : Bool :=
  match c with
  | .pureOp => !busy f
  | .bootOp => f == .unconnected
  | .idleOp => f == .idle

/-- Run an event the state accepts; raise WrongState otherwise (R172, R217). -/
def gate (c : EventClass) (run : State → State) (s : State) : State :=
  if accepts c s.fsmState then run s else raise .wrongState s

/-! ### Frame assembly and sending -/

/-- The bytes 0 to 16 of the command frame stamped with `id` (R42, R61, R110). -/
def frameBody (cmd : Byte) (payload : Payload) (id : Half) : List Byte :=
  [0xAA, 0xB4, cmd] ++ payload.toList ++ [lowByte id, highByte id]

/-- The command frame `assemble(cmd, payload)` builds under device ID `id` (R110): the checksum is computed last, over the
bytes that hold the stamp (R111). -/
def commandFrame (cmd : Byte) (payload : Payload) (id : Half) : Frame19 :=
  ⟨(frameBody cmd payload id ++ [sum8 (frameBody cmd payload id) 2 16, 0xAB]).toArray, by simp [frameBody]⟩

/-- `assemble(cmd, payload)` (R110): the frame stamped with the current `device_id` is written over the whole of
`tx_buf`. -/
def assemble (cmd : Byte) (payload : Payload) (s : State) : State :=
  { s with txBuf := Memory.writeBytes s.txBuf 0 (commandFrame cmd payload s.deviceId).toList }

/-- What the send primitive returns (R174): the state, the frame handed to the write, and whether the write succeeded. -/
structure Sent where
  state : State
  frame : Frame19
  success : Bool
deriving DecidableEq, Repr

/-- `send(cmd, payload, w)` (R174): the flag is set before the frame is built and written. -/
def send (cmd : Byte) (payload : Payload) (w : WriteOutcome) (s : State) : Sent where
  state := assemble cmd payload { s with pendingRequest := pendingAfterSend cmd s.pendingRequest }
  frame := commandFrame cmd payload s.deviceId
  success := writeOk w

/-! ### The decoders -/

/-- The device ID a decoded response carries (R142). -/
def responseId : ParsedResponse → Half
  | .measurement _ _ id => id
  | .configAck _ _ _ id => id
  | .firmwareAck _ _ _ id => id
  | .deviceIdAck id => id

/-- RX.MEASUREMENT (R143): the raw PM fields from frame bytes 2 to 5 (R45). -/
def measurementOf (b2 b3 b4 b5 : Byte) (id : Half) : ParsedResponse :=
  .measurement (pmRawOf b2 b3) (pmRawOf b4 b5) id

/-- RX.ACK.REPORT_MODE (R144): byte 3 is type_flag, byte 4 mode_or_value, byte 5 is ignored. -/
def reportModeAckOf (b3 b4 : Byte) (id : Half) : ParsedResponse := .configAck 0x02 b3 b4 id

/-- RX.ACK.SLEEP (R145): byte 3 is type_flag, byte 4 mode_or_value, byte 5 is ignored. -/
def sleepAckOf (b3 b4 : Byte) (id : Half) : ParsedResponse := .configAck 0x06 b3 b4 id

/-- RX.ACK.PERIOD (R146): byte 3 is type_flag, byte 4 the minutes, byte 5 is ignored. -/
def periodAckOf (b3 b4 : Byte) (id : Half) : ParsedResponse := .configAck 0x08 b3 b4 id

/-- RX.ACK.FIRMWARE (R147): bytes 3, 4 and 5 are year, month and day. -/
def firmwareAckOf (b3 b4 b5 : Byte) (id : Half) : ParsedResponse := .firmwareAck b3 b4 b5 id

/-- RX.ACK.DEVICE_ID (R148): bytes 3 to 5 are ignored. -/
def deviceIdAckOf (id : Half) : ParsedResponse := .deviceIdAck id

/-- The device ID at bytes 6 and 7 of a response frame (R43). -/
def responseFrameId (b : List Byte) : Half := deviceIdOf (byteAt b 6) (byteAt b 7)

/-- The variant a validated response frame decodes to (R69, R140), or UnknownCommand (R70). -/
def decodeVariant (b : List Byte) : DecodeOutcome :=
  if byteAt b 1 = 0xC0 then
    .ok (measurementOf (byteAt b 2) (byteAt b 3) (byteAt b 4) (byteAt b 5) (responseFrameId b))
  else if byteAt b 1 = 0xC5 then
    if byteAt b 2 = 0x02 then .ok (reportModeAckOf (byteAt b 3) (byteAt b 4) (responseFrameId b))
    else if byteAt b 2 = 0x06 then .ok (sleepAckOf (byteAt b 3) (byteAt b 4) (responseFrameId b))
    else if byteAt b 2 = 0x08 then .ok (periodAckOf (byteAt b 3) (byteAt b 4) (responseFrameId b))
    else if byteAt b 2 = 0x07 then
      .ok (firmwareAckOf (byteAt b 3) (byteAt b 4) (byteAt b 5) (responseFrameId b))
    else if byteAt b 2 = 0x05 then .ok (deviceIdAckOf (responseFrameId b))
    else .err .unknownCommand
  else .err .unknownCommand

/-- `decode10(b)` (R140): length, head, tail, checksum, then tag and embedded command id, stopping at the first failure
(R141). -/
def decode10 (b : List Byte) : DecodeOutcome :=
  if b.length ≠ 10 then .err .badLength
  else if byteAt b 0 ≠ 0xAA then .err .badFraming
  else if byteAt b 9 ≠ 0xAB then .err .badFraming
  else if byteAt b 8 ≠ sum8 b 2 7 then .err .checksumMismatch
  else decodeVariant b

/-- The command ids of the dispatcher table (R63). -/
def commandIds : List Byte := [0x02, 0x04, 0x05, 0x06, 0x07, 0x08]

/-- Bytes 3 to 14 of a command frame (R61). -/
def payloadOf (b : List Byte) : Payload :=
  #v[byteAt b 3, byteAt b 4, byteAt b 5, byteAt b 6, byteAt b 7, byteAt b 8, byteAt b 9, byteAt b 10, byteAt b 11,
    byteAt b 12, byteAt b 13, byteAt b 14]

/-- `parse19(b)` (R150): length, head, tail, checksum, then tag and command id, stopping at the first failure. -/
def parse19 (b : List Byte) : ParseOutcome :=
  if b.length ≠ 19 then .err .badLength
  else if byteAt b 0 ≠ 0xAA then .err .badFraming
  else if byteAt b 18 ≠ 0xAB then .err .badFraming
  else if byteAt b 17 ≠ sum8 b 2 16 then .err .checksumMismatch
  else if byteAt b 1 ≠ 0xB4 then .err .unknownCommand
  else if !(commandIds.contains (byteAt b 2)) then .err .unknownCommand
  else .ok { commandId := byteAt b 2, payload := payloadOf b, deviceId := deviceIdOf (byteAt b 15) (byteAt b 16) }

/-- The device ID is cached after every successful decode, whatever the variant, and never after a failed one (R142). -/
def cacheId (r : DecodeOutcome) (s : State) : State :=
  match r with
  | .ok p => { s with deviceId := responseId p }
  | .err _ => s

/-- How an operation that only decodes ends (R140, R149): the response and OK, or the frame error and no field of it. -/
def decodeOp (r : DecodeOutcome) (s : State) : State :=
  match r with
  | .ok p => complete .ok (some (.response p)) none none (cacheId r s)
  | .err e => raise e.toStatus s

end Sys2Proof.Machine
end

