-- ==== Sys2Proof/Machine/Assembler.lean ====
section
/-! DEFINITION. The frame assembler (spec 41_assembler.md): the payload of each command (the packers of R112 to R120), the
ASSEMBLE operation (R110), and the command frame types run on their own. A frame type of R68 run on its own is the
assembler building that one frame by its packer, with the outputs and the gating of ASSEMBLE (log entry 5). -/

namespace Sys2Proof.Machine

/-- A command id and its payload: what a packer hands to `assemble` or `send`. -/
structure Packed where
  cmd : Byte
  payload : Payload
deriving DecidableEq, Repr

/-- The packer of TX.REPORT_MODE.GET (R112). -/
def packReportModeGet : Packed := { cmd := 0x02, payload := zeroPayload }

/-- The packer of TX.REPORT_MODE.SET (R113). -/
def packReportModeSet (m : BitVec 1) : Packed := { cmd := 0x02, payload := setPayload (modeByte m) }

/-- The packer of TX.QUERY_DATA (R114). -/
def packQueryData : Packed := { cmd := 0x04, payload := zeroPayload }

/-- The packer of TX.SET_DEVICE_ID (R115). -/
def packSetDeviceId (newId : Half) : Packed := { cmd := 0x05, payload := newIdPayload newId }

/-- The packer of TX.SLEEP.GET (R116). -/
def packSleepGet : Packed := { cmd := 0x06, payload := zeroPayload }

/-- The packer of TX.SLEEP.SET (R117). -/
def packSleepSet (m : BitVec 1) : Packed := { cmd := 0x06, payload := setPayload (modeByte m) }

/-- The packer of TX.FIRMWARE (R118). -/
def packFirmware : Packed := { cmd := 0x07, payload := zeroPayload }

/-- The packer of TX.PERIOD.GET (R119). -/
def packPeriodGet : Packed := { cmd := 0x08, payload := zeroPayload }

/-- The packer of TX.PERIOD.SET (R120), behind its range check `periodOk`. -/
def packPeriodSet (v : Byte) : Packed := { cmd := 0x08, payload := setPayload v }

/-- The range check of the working period (R120): `v <= PERIOD_MAX`. -/
def periodOk (v : Byte) : Bool := decide (v.toNat ≤ Config.periodMax)

/-- What assembling leaves (R110): the frame in `tx_buf` and in `result`, status OK, no transport access. -/
def assembleOp (p : Packed) (s : State) : State :=
  complete .ok (some (.frame (commandFrame p.cmd p.payload s.deviceId))) none none (assemble p.cmd p.payload s)

/-- Assembling behind the range check of R120: OutOfRange before any frame is built. -/
def assemblePeriodOp (v : Byte) (s : State) : State :=
  if periodOk v then assembleOp (packPeriodSet v) s else raise .outOfRange s

/-- ASSEMBLE (R110): any command id, any payload. -/
def execAssemble (cmd : Byte) (payload : Payload) (s : State) : Host.Outcome State Fault Refusal :=
  .next (gate .pureOp (assembleOp { cmd := cmd, payload := payload }) s)

/-- TX.REPORT_MODE.GET (R112). -/
def execTxReportModeGet (s : State) : Host.Outcome State Fault Refusal :=
  .next (gate .pureOp (assembleOp packReportModeGet) s)

/-- TX.REPORT_MODE.SET (R113). -/
def execTxReportModeSet (m : BitVec 1) (s : State) : Host.Outcome State Fault Refusal :=
  .next (gate .pureOp (assembleOp (packReportModeSet m)) s)

/-- TX.QUERY_DATA (R114). -/
def execTxQueryData (s : State) : Host.Outcome State Fault Refusal :=
  .next (gate .pureOp (assembleOp packQueryData) s)

/-- TX.SET_DEVICE_ID (R115): `device_id` itself is not written. -/
def execTxSetDeviceId (newId : Half) (s : State) : Host.Outcome State Fault Refusal :=
  .next (gate .pureOp (assembleOp (packSetDeviceId newId)) s)

/-- TX.SLEEP.GET (R116). -/
def execTxSleepGet (s : State) : Host.Outcome State Fault Refusal :=
  .next (gate .pureOp (assembleOp packSleepGet) s)

/-- TX.SLEEP.SET (R117). -/
def execTxSleepSet (m : BitVec 1) (s : State) : Host.Outcome State Fault Refusal :=
  .next (gate .pureOp (assembleOp (packSleepSet m)) s)

/-- TX.FIRMWARE (R118). -/
def execTxFirmware (s : State) : Host.Outcome State Fault Refusal :=
  .next (gate .pureOp (assembleOp packFirmware) s)

/-- TX.PERIOD.GET (R119). -/
def execTxPeriodGet (s : State) : Host.Outcome State Fault Refusal :=
  .next (gate .pureOp (assembleOp packPeriodGet) s)

/-- TX.PERIOD.SET (R120), with its range check. -/
def execTxPeriodSet (v : Byte) (s : State) : Host.Outcome State Fault Refusal :=
  .next (gate .pureOp (assemblePeriodOp v) s)

end Sys2Proof.Machine
end

