-- ==== Sys2Proof/Machine/Checksum.lean ====
section
/-! DEFINITION. The checksum generator's host operations (spec 40_checksum.md R101, R102). -/

namespace Sys2Proof.Machine

/-- What a checksum operation leaves (R101, R102): the sum over `b[2..hi]` in `result`, status OK. -/
def checksumOp (b : List Byte) (hi : Nat) (s : State) : State :=
  complete .ok (some (.checksum (sum8 b 2 hi))) none none s

/-- CKSUM19 (R101): the sum over bytes 2 to 16 of any 19 bytes. -/
def execCksum19 (f : Frame19) (s : State) : Host.Outcome State Fault Refusal :=
  .next (gate .pureOp (checksumOp f.toList 16) s)

/-- CKSUM10 (R102): the sum over bytes 2 to 7 of any 10 bytes. -/
def execCksum10 (f : Frame10) (s : State) : Host.Outcome State Fault Refusal :=
  .next (gate .pureOp (checksumOp f.toList 7) s)

end Sys2Proof.Machine
end

