-- ==== Sys2Proof/Machine/Disassembler.lean ====
section
/-! DEFINITION. The frame disassembler (spec 42_disassembler.md): DECODE10 (R140), PARSE19 (R150), and the response frame
types run on their own. A frame type of R69 run on its own is the decoder taking that one frame, with the registers,
outputs and gating of DECODE10 (log entry 5). -/

namespace Sys2Proof.Machine

/-- How PARSE19 ends (R150): the command and OK, or the frame error; `device_id` is not written. -/
def parseOp (r : ParseOutcome) (s : State) : State :=
  match r with
  | .ok c => complete .ok (some (.command c)) none none s
  | .err e => raise e.toStatus s

/-- The decoder on a frame whose length, markers, tag and command id are its type's own (R69): what is left of R140 is the
checksum. -/
def decodeTyped (b : List Byte) (p : ParsedResponse) : DecodeOutcome :=
  if byteAt b 8 = sum8 b 2 7 then .ok p else .err .checksumMismatch

/-- DECODE10 (R140): decodes any byte list, caching the device ID on success (R142, decision D30). -/
def execDecode10 (b : List Byte) (s : State) : Host.Outcome State Fault Refusal :=
  .next (gate .pureOp (decodeOp (decode10 b)) s)

/-- PARSE19 (R150). -/
def execParse19 (b : List Byte) (s : State) : Host.Outcome State Fault Refusal :=
  .next (gate .pureOp (parseOp (parse19 b)) s)

/-- RX.MEASUREMENT (R143). -/
def execRxMeasurement (pm25A pm25B pm10A pm10B : Byte) (id : Half) (ck : Byte) (s : State) :
    Host.Outcome State Fault Refusal :=
  .next (gate .pureOp (decodeOp (decodeTyped (rspBytes 0xC0 pm25A pm25B pm10A pm10B id ck)
    (measurementOf pm25A pm25B pm10A pm10B id))) s)

/-- RX.ACK.REPORT_MODE (R144). -/
def execRxAckReportMode (typeFlag modeOrValue ignored5 : Byte) (id : Half) (ck : Byte) (s : State) :
    Host.Outcome State Fault Refusal :=
  .next (gate .pureOp (decodeOp (decodeTyped (rspBytes 0xC5 0x02 typeFlag modeOrValue ignored5 id ck)
    (reportModeAckOf typeFlag modeOrValue id))) s)

/-- RX.ACK.SLEEP (R145). -/
def execRxAckSleep (typeFlag modeOrValue ignored5 : Byte) (id : Half) (ck : Byte) (s : State) :
    Host.Outcome State Fault Refusal :=
  .next (gate .pureOp (decodeOp (decodeTyped (rspBytes 0xC5 0x06 typeFlag modeOrValue ignored5 id ck)
    (sleepAckOf typeFlag modeOrValue id))) s)

/-- RX.ACK.PERIOD (R146). -/
def execRxAckPeriod (typeFlag modeOrValue ignored5 : Byte) (id : Half) (ck : Byte) (s : State) :
    Host.Outcome State Fault Refusal :=
  .next (gate .pureOp (decodeOp (decodeTyped (rspBytes 0xC5 0x08 typeFlag modeOrValue ignored5 id ck)
    (periodAckOf typeFlag modeOrValue id))) s)

/-- RX.ACK.FIRMWARE (R147). -/
def execRxAckFirmware (year month day : Byte) (id : Half) (ck : Byte) (s : State) :
    Host.Outcome State Fault Refusal :=
  .next (gate .pureOp (decodeOp (decodeTyped (rspBytes 0xC5 0x07 year month day id ck)
    (firmwareAckOf year month day id))) s)

/-- RX.ACK.DEVICE_ID (R148). -/
def execRxAckDeviceId (ignored3 ignored4 ignored5 : Byte) (id : Half) (ck : Byte) (s : State) :
    Host.Outcome State Fault Refusal :=
  .next (gate .pureOp (decodeOp (decodeTyped (rspBytes 0xC5 0x05 ignored3 ignored4 ignored5 id ck)
    (deviceIdAckOf id))) s)

end Sys2Proof.Machine
end

