-- ==== Sys2Proof/Machine/Reset.lean ====
section
/-! DEFINITION. RESET (spec 70_reset_and_hazards.md R240, R242). -/

namespace Sys2Proof.Machine

/-- `for i in 0..18: tx_buf[i] <- 0x00` (R240). -/
def clearTxBuf (m : Memory) : Memory := Memory.writeBytes m 0 (List.replicate 19 0x00)

/-- Every register at its reset value, in every state; no transport access. The environment is not touched (R242): the host
events not yet taken stay, and so do the parameters, which are no registers. -/
def resetOp (s : State) : State :=
  { pendingRequest := false
    deviceId := Config.deviceIdUnknown
    txBuf := clearTxBuf s.txBuf
    fsmState := .unconnected
    readCount := 0
    pollCount := 0
    cycleCount := 0
    status := .ok
    result := none
    txOut := none
    decodeOut := none
    params := s.params
    inbox := s.inbox }

/-- RESET (R240). -/
def execReset (s : State) : Host.Outcome State Fault Refusal := .next (resetOp s)

end Sys2Proof.Machine
end

