-- ==== Sys2Proof/Machine/Sync.lean ====
section
/-! DEFINITION. The frame synchronisation state machine (spec 43_sync_fsm.md): the command operations (R176 to R185), the
waits (R186 to R189), the connection bootstrap (R190, R191), a failed read (R192) and READ as a whole (R193). -/

namespace Sys2Proof.Machine

/-! ### The command operations -/

/-- The command template (R176): the range check, then the outstanding request (R175), then the send (R174), then the
wait the command asks for. -/
def command (p : Packed) (valid : Bool) (w : WriteOutcome) (s : State) : State :=
  if !valid then raise .outOfRange s
  else if s.pendingRequest then raise .requestPending s
  else
    let sent := send p.cmd p.payload w s
    if sent.success then
      complete .busy none (some sent.frame) none
        { sent.state with fsmState := if p.cmd = 0x04 then .awaitMeas else .awaitAck, readCount := 0 }
    else complete .ioError none (some sent.frame) none sent.state

/-- GET_REPORT_MODE (R177). -/
def execGetReportMode (w : WriteOutcome) (s : State) : Host.Outcome State Fault Refusal :=
  .next (gate .idleOp (command packReportModeGet true w) s)

/-- SET_REPORT_MODE (R178). -/
def execSetReportMode (m : BitVec 1) (w : WriteOutcome) (s : State) : Host.Outcome State Fault Refusal :=
  .next (gate .idleOp (command (packReportModeSet m) true w) s)

/-- QUERY_DATA (R179). -/
def execQueryData (w : WriteOutcome) (s : State) : Host.Outcome State Fault Refusal :=
  .next (gate .idleOp (command packQueryData true w) s)

/-- SET_DEVICE_ID (R180). -/
def execSetDeviceId (id : Half) (w : WriteOutcome) (s : State) : Host.Outcome State Fault Refusal :=
  .next (gate .idleOp (command (packSetDeviceId id) true w) s)

/-- GET_SLEEP (R181). -/
def execGetSleep (w : WriteOutcome) (s : State) : Host.Outcome State Fault Refusal :=
  .next (gate .idleOp (command packSleepGet true w) s)

/-- SET_SLEEP (R182). -/
def execSetSleep (m : BitVec 1) (w : WriteOutcome) (s : State) : Host.Outcome State Fault Refusal :=
  .next (gate .idleOp (command (packSleepSet m) true w) s)

/-- GET_FIRMWARE (R183). -/
def execGetFirmware (w : WriteOutcome) (s : State) : Host.Outcome State Fault Refusal :=
  .next (gate .idleOp (command packFirmware true w) s)

/-- GET_PERIOD (R184). -/
def execGetPeriod (w : WriteOutcome) (s : State) : Host.Outcome State Fault Refusal :=
  .next (gate .idleOp (command packPeriodGet true w) s)

/-- SET_PERIOD (R185), valid when `v <= 30`. -/
def execSetPeriod (v : Byte) (w : WriteOutcome) (s : State) : Host.Outcome State Fault Refusal :=
  .next (gate .idleOp (command (packPeriodSet v) (periodOk v) w) s)

/-! ### The waits -/

/-- AWAIT_ACK in IDLE (R186). -/
def awaitAckOp (s : State) : State :=
  if s.pendingRequest then complete .busy none none none { s with fsmState := .awaitAck, readCount := 0 }
  else complete .ok none none none s

/-- READ_MEAS in IDLE (R187). -/
def readMeasOp (s : State) : State :=
  if s.pendingRequest then raise .requestPending s
  else complete .busy none none none { s with fsmState := .awaitMeas, readCount := 0 }

/-- AWAIT_ACK (R186). -/
def execAwaitAck (s : State) : Host.Outcome State Fault Refusal :=
  .next (gate .idleOp awaitAckOp s)

/-- READ_MEAS (R187). -/
def execReadMeas (s : State) : Host.Outcome State Fault Refusal :=
  .next (gate .idleOp readMeasOp s)

/-- The response that ends a wait or the bootstrap, if the decode gave one that `wanted` takes. -/
def awaited (wanted : ParsedResponse → Bool) : DecodeOutcome → Option ParsedResponse
  | .ok p => if wanted p then some p else none
  | .err _ => none

/-- A failed read attempt of a wait (R188, R189): one more is counted, or the `MAX_READS`-th ends the wait in Timeout with
`pending` in `pending_request`. -/
def failedRead (pending : Bool) (dec : DecodeOutcome) (s : State) : State :=
  if s.readCount + 1 = s.params.maxReads then
    complete .timeout none none (some dec) { s with pendingRequest := pending, fsmState := .idle, readCount := 0 }
  else complete .busy none none (some dec) { s with readCount := s.readCount + 1 }

/-- READ `Ok(chunk)` in AWAIT_ACK (R188): any acknowledgement ends the wait and clears the flag, and so does Timeout. -/
def readAwaitAck (chunk : List Byte) (s : State) : State :=
  match awaited isAck (decode10 chunk) with
  | some p =>
    complete .ok (some (.response p)) none (some (decode10 chunk))
      { cacheId (decode10 chunk) s with pendingRequest := false, fsmState := .idle, readCount := 0 }
  | none => failedRead false (decode10 chunk) (cacheId (decode10 chunk) s)

/-- READ `Ok(chunk)` in AWAIT_MEAS (R189): any measurement ends the wait; the flag is not written. -/
def readAwaitMeas (chunk : List Byte) (s : State) : State :=
  match awaited isMeasurement (decode10 chunk) with
  | some p =>
    complete .ok (some (.response p)) none (some (decode10 chunk))
      { cacheId (decode10 chunk) s with fsmState := .idle, readCount := 0 }
  | none => failedRead s.pendingRequest (decode10 chunk) (cacheId (decode10 chunk) s)

/-! ### The connection bootstrap -/

/-- The registers every exit from BOOT leaves (R22, R27, R28, R191): the flag and both bootstrap counters cleared. -/
def leaveBoot (exit : FsmState) (s : State) : State :=
  { s with pendingRequest := false, fsmState := exit, cycleCount := 0, pollCount := 0 }

/-- BOOT in UNCONNECTED (R190): the first firmware request. -/
def bootOp (w : WriteOutcome) (s : State) : State :=
  let sent := send packFirmware.cmd packFirmware.payload w s
  if sent.success then
    complete .busy none (some sent.frame) none { sent.state with fsmState := .boot, cycleCount := 1, pollCount := 0 }
  else
    complete .ioError none (some sent.frame) none { sent.state with pendingRequest := false, fsmState := .failed }

/-- BOOT (R190). -/
def execBoot (w : WriteOutcome) (s : State) : Host.Outcome State Fault Refusal :=
  .next (gate .bootOp (bootOp w) s)

/-- A bootstrap resend (R191): the flag is cleared, and the firmware request is sent afresh under the current
`device_id`. -/
def resend (w : WriteOutcome) (dec : DecodeOutcome) (s : State) : State :=
  let sent := send packFirmware.cmd packFirmware.payload w { s with pendingRequest := false }
  if sent.success then
    complete .busy none (some sent.frame) (some dec) { sent.state with cycleCount := s.cycleCount + 1, pollCount := 0 }
  else complete .ioError none (some sent.frame) (some dec) (leaveBoot .failed sent.state)

/-- A failed poll (R191): the cycle continues, or the last cycle is exhausted, or the request is resent. -/
def failedPoll (w : WriteOutcome) (dec : DecodeOutcome) (s : State) : State :=
  if s.pollCount + 1 < s.params.pollsPerCycle then
    complete .busy none none (some dec) { s with pollCount := s.pollCount + 1 }
  else if s.cycleCount = s.params.maxCycles then complete .unreachable none none (some dec) (leaveBoot .failed s)
  else resend w dec s

/-- READ `Ok(chunk)` in BOOT (R191): any acknowledgement ends the bootstrap; anything else is a failed poll. -/
def readBoot (chunk : List Byte) (w : WriteOutcome) (s : State) : State :=
  match awaited isAck (decode10 chunk) with
  | some p =>
    complete .ok (some (.response p)) none (some (decode10 chunk)) (leaveBoot .idle (cacheId (decode10 chunk) s))
  | none => failedPoll w (decode10 chunk) (cacheId (decode10 chunk) s)

/-! ### READ -/

/-- READ `Err` in BOOT (R192): fatal to the session. -/
def readErrBoot (s : State) : State := complete .ioError none none none (leaveBoot .failed s)

/-- READ `Err` in AWAIT_ACK or AWAIT_MEAS (R192): the wait ends in IDLE, the flag unchanged. -/
def readErrWait (s : State) : State := complete .ioError none none none { s with fsmState := .idle, readCount := 0 }

/-- READ as a whole (R193): the state says which wait the outcome belongs to; outside the busy states it is not
consumed. -/
def readOp (r : ReadOutcome) (w : WriteOutcome) (s : State) : State :=
  match s.fsmState, r with
  | .boot, .ok chunk => readBoot chunk w s
  | .boot, .err => readErrBoot s
  | .awaitAck, .ok chunk => readAwaitAck chunk s
  | .awaitAck, .err => readErrWait s
  | .awaitMeas, .ok chunk => readAwaitMeas chunk s
  | .awaitMeas, .err => readErrWait s
  | .unconnected, _ => raise .wrongState s
  | .idle, _ => raise .wrongState s
  | .failed, _ => raise .wrongState s

/-- READ (R193). -/
def execRead (r : ReadOutcome) (w : WriteOutcome) (s : State) : Host.Outcome State Fault Refusal :=
  .next (readOp r w s)

end Sys2Proof.Machine
end

