-- ==== Sys2Proof/Machine/Dispatch.lean ====
section
/-! DEFINITION. One arm per row of spec/opcode_table.json, each one call of the row's meaning. -/

namespace Sys2Proof.Machine

/-- The effect of one instruction. -/
def exec (i : Instr) (s : State) : Host.Outcome State Fault Refusal :=
  match i with
  | .cksum19 f => Sys2Proof.Machine.execCksum19 f s
  | .cksum10 f => Sys2Proof.Machine.execCksum10 f s
  | .assemble cmd payload => Sys2Proof.Machine.execAssemble cmd payload s
  | .decode10 b => Sys2Proof.Machine.execDecode10 b s
  | .parse19 b => Sys2Proof.Machine.execParse19 b s
  | .boot w => Sys2Proof.Machine.execBoot w s
  | .read r w => Sys2Proof.Machine.execRead r w s
  | .awaitAck => Sys2Proof.Machine.execAwaitAck s
  | .readMeas => Sys2Proof.Machine.execReadMeas s
  | .getReportMode w => Sys2Proof.Machine.execGetReportMode w s
  | .setReportMode m w => Sys2Proof.Machine.execSetReportMode m w s
  | .queryData w => Sys2Proof.Machine.execQueryData w s
  | .setDeviceId id w => Sys2Proof.Machine.execSetDeviceId id w s
  | .getSleep w => Sys2Proof.Machine.execGetSleep w s
  | .setSleep m w => Sys2Proof.Machine.execSetSleep m w s
  | .getFirmware w => Sys2Proof.Machine.execGetFirmware w s
  | .getPeriod w => Sys2Proof.Machine.execGetPeriod w s
  | .setPeriod v w => Sys2Proof.Machine.execSetPeriod v w s
  | .reset => Sys2Proof.Machine.execReset s
  | .txReportModeGet _ _ => Sys2Proof.Machine.execTxReportModeGet s
  | .txReportModeSet m _ _ => Sys2Proof.Machine.execTxReportModeSet m s
  | .txQueryData _ _ => Sys2Proof.Machine.execTxQueryData s
  | .txSetDeviceId newId _ _ => Sys2Proof.Machine.execTxSetDeviceId newId s
  | .txSleepGet _ _ => Sys2Proof.Machine.execTxSleepGet s
  | .txSleepSet m _ _ => Sys2Proof.Machine.execTxSleepSet m s
  | .txFirmware _ _ => Sys2Proof.Machine.execTxFirmware s
  | .txPeriodGet _ _ => Sys2Proof.Machine.execTxPeriodGet s
  | .txPeriodSet v _ _ => Sys2Proof.Machine.execTxPeriodSet v s
  | .rxMeasurement a b c d id ck => Sys2Proof.Machine.execRxMeasurement a b c d id ck s
  | .rxAckReportMode tf mv ig id ck => Sys2Proof.Machine.execRxAckReportMode tf mv ig id ck s
  | .rxAckSleep tf mv ig id ck => Sys2Proof.Machine.execRxAckSleep tf mv ig id ck s
  | .rxAckPeriod tf mv ig id ck => Sys2Proof.Machine.execRxAckPeriod tf mv ig id ck s
  | .rxAckFirmware y mo d id ck => Sys2Proof.Machine.execRxAckFirmware y mo d id ck s
  | .rxAckDeviceId a b c id ck => Sys2Proof.Machine.execRxAckDeviceId a b c id ck s

end Sys2Proof.Machine
end

