-- ==== Sys2Proof/Decode.lean ====
section
/-! DEFINITION. Decoding an event to an instruction, total on any bytes and rejecting by name, from the OP codes of spec
30_encoding.md R71 and the match and mask rows of spec/opcode_table.json (R68, R69, R74); then the encoder, from the same
tables; then how the host's numbering of a table word is laid out as an event. The byte layout of a host operation's
operands is the model's own (log entry 4): the OP byte, then the operands in the order of R71's table, a 16-bit operand
low byte first, a byte list as the rest of the event; a READ holds 0x00 and then the chunk, or 0x01 alone for `Err`. -/

namespace Sys2Proof

/-- Why the bytes of an event are no instruction. -/
inductive DecodeError where
  /-- The OP is not listed in R71 (R72). The block answers it: IllegalOp (R218). -/
  | reservedOp (op : Byte)
  /-- The operand bytes of a listed OP do not spell operands of its interface types (R72). -/
  | operandBytes (op : Byte)
  /-- A host event without an OP byte. -/
  | noOp
  /-- A command-frame event that is not a frame type of R68. -/
  | notACommandFrame
  /-- A response-frame event that is not a frame type of R69. The block answers it: the decoder's frame error (R70,
  R140). -/
  | notAResponseFrame (b : List Byte)
deriving DecidableEq, Repr

/-! ### The frame rows of the opcode table -/

/-- The wire frame types, in the table's order (R68, R69). -/
inductive FrameType where
  | txReportModeGet
  | txReportModeSet
  | txQueryData
  | txSetDeviceId
  | txSleepGet
  | txSleepSet
  | txFirmware
  | txPeriodGet
  | txPeriodSet
  | rxMeasurement
  | rxAckReportMode
  | rxAckSleep
  | rxAckPeriod
  | rxAckFirmware
  | rxAckDeviceId
deriving DecidableEq, Repr

/-- A row's match and mask, in frame index order (R74). -/
structure FrameRow where
  pattern : List Byte
  mask : List Byte
deriving DecidableEq, Repr

/-- The rows of spec/opcode_table.json, byte for byte. -/
def frameRow : FrameType → FrameRow
  | .txReportModeGet =>
    { pattern := [0xAA, 0xB4, 0x02, 0x00, 0x00, 0x00, 0x00, 0x00, 0x00, 0x00, 0x00, 0x00, 0x00, 0x00, 0x00, 0x00, 0x00,
      0x00, 0xAB],
      mask := [0xFF, 0xFF, 0xFF, 0xFF, 0xFF, 0xFF, 0xFF, 0xFF, 0xFF, 0xFF, 0xFF, 0xFF, 0xFF, 0xFF, 0xFF, 0x00, 0x00,
        0x00, 0xFF] }
  | .txReportModeSet =>
    { pattern := [0xAA, 0xB4, 0x02, 0x01, 0x00, 0x00, 0x00, 0x00, 0x00, 0x00, 0x00, 0x00, 0x00, 0x00, 0x00, 0x00, 0x00,
      0x00, 0xAB],
      mask := [0xFF, 0xFF, 0xFF, 0xFF, 0x00, 0xFF, 0xFF, 0xFF, 0xFF, 0xFF, 0xFF, 0xFF, 0xFF, 0xFF, 0xFF, 0x00, 0x00,
        0x00, 0xFF] }
  | .txQueryData =>
    { pattern := [0xAA, 0xB4, 0x04, 0x00, 0x00, 0x00, 0x00, 0x00, 0x00, 0x00, 0x00, 0x00, 0x00, 0x00, 0x00, 0x00, 0x00,
      0x00, 0xAB],
      mask := [0xFF, 0xFF, 0xFF, 0xFF, 0xFF, 0xFF, 0xFF, 0xFF, 0xFF, 0xFF, 0xFF, 0xFF, 0xFF, 0xFF, 0xFF, 0x00, 0x00,
        0x00, 0xFF] }
  | .txSetDeviceId =>
    { pattern := [0xAA, 0xB4, 0x05, 0x00, 0x00, 0x00, 0x00, 0x00, 0x00, 0x00, 0x00, 0x00, 0x00, 0x00, 0x00, 0x00, 0x00,
      0x00, 0xAB],
      mask := [0xFF, 0xFF, 0xFF, 0xFF, 0xFF, 0xFF, 0xFF, 0xFF, 0xFF, 0xFF, 0xFF, 0xFF, 0xFF, 0x00, 0x00, 0x00, 0x00,
        0x00, 0xFF] }
  | .txSleepGet =>
    { pattern := [0xAA, 0xB4, 0x06, 0x00, 0x00, 0x00, 0x00, 0x00, 0x00, 0x00, 0x00, 0x00, 0x00, 0x00, 0x00, 0x00, 0x00,
      0x00, 0xAB],
      mask := [0xFF, 0xFF, 0xFF, 0xFF, 0xFF, 0xFF, 0xFF, 0xFF, 0xFF, 0xFF, 0xFF, 0xFF, 0xFF, 0xFF, 0xFF, 0x00, 0x00,
        0x00, 0xFF] }
  | .txSleepSet =>
    { pattern := [0xAA, 0xB4, 0x06, 0x01, 0x00, 0x00, 0x00, 0x00, 0x00, 0x00, 0x00, 0x00, 0x00, 0x00, 0x00, 0x00, 0x00,
      0x00, 0xAB],
      mask := [0xFF, 0xFF, 0xFF, 0xFF, 0x00, 0xFF, 0xFF, 0xFF, 0xFF, 0xFF, 0xFF, 0xFF, 0xFF, 0xFF, 0xFF, 0x00, 0x00,
        0x00, 0xFF] }
  | .txFirmware =>
    { pattern := [0xAA, 0xB4, 0x07, 0x00, 0x00, 0x00, 0x00, 0x00, 0x00, 0x00, 0x00, 0x00, 0x00, 0x00, 0x00, 0x00, 0x00,
      0x00, 0xAB],
      mask := [0xFF, 0xFF, 0xFF, 0xFF, 0xFF, 0xFF, 0xFF, 0xFF, 0xFF, 0xFF, 0xFF, 0xFF, 0xFF, 0xFF, 0xFF, 0x00, 0x00,
        0x00, 0xFF] }
  | .txPeriodGet =>
    { pattern := [0xAA, 0xB4, 0x08, 0x00, 0x00, 0x00, 0x00, 0x00, 0x00, 0x00, 0x00, 0x00, 0x00, 0x00, 0x00, 0x00, 0x00,
      0x00, 0xAB],
      mask := [0xFF, 0xFF, 0xFF, 0xFF, 0xFF, 0xFF, 0xFF, 0xFF, 0xFF, 0xFF, 0xFF, 0xFF, 0xFF, 0xFF, 0xFF, 0x00, 0x00,
        0x00, 0xFF] }
  | .txPeriodSet =>
    { pattern := [0xAA, 0xB4, 0x08, 0x01, 0x00, 0x00, 0x00, 0x00, 0x00, 0x00, 0x00, 0x00, 0x00, 0x00, 0x00, 0x00, 0x00,
      0x00, 0xAB],
      mask := [0xFF, 0xFF, 0xFF, 0xFF, 0x00, 0xFF, 0xFF, 0xFF, 0xFF, 0xFF, 0xFF, 0xFF, 0xFF, 0xFF, 0xFF, 0x00, 0x00,
        0x00, 0xFF] }
  | .rxMeasurement =>
    { pattern := [0xAA, 0xC0, 0x00, 0x00, 0x00, 0x00, 0x00, 0x00, 0x00, 0xAB],
      mask := [0xFF, 0xFF, 0x00, 0x00, 0x00, 0x00, 0x00, 0x00, 0x00, 0xFF] }
  | .rxAckReportMode =>
    { pattern := [0xAA, 0xC5, 0x02, 0x00, 0x00, 0x00, 0x00, 0x00, 0x00, 0xAB],
      mask := [0xFF, 0xFF, 0xFF, 0x00, 0x00, 0x00, 0x00, 0x00, 0x00, 0xFF] }
  | .rxAckSleep =>
    { pattern := [0xAA, 0xC5, 0x06, 0x00, 0x00, 0x00, 0x00, 0x00, 0x00, 0xAB],
      mask := [0xFF, 0xFF, 0xFF, 0x00, 0x00, 0x00, 0x00, 0x00, 0x00, 0xFF] }
  | .rxAckPeriod =>
    { pattern := [0xAA, 0xC5, 0x08, 0x00, 0x00, 0x00, 0x00, 0x00, 0x00, 0xAB],
      mask := [0xFF, 0xFF, 0xFF, 0x00, 0x00, 0x00, 0x00, 0x00, 0x00, 0xFF] }
  | .rxAckFirmware =>
    { pattern := [0xAA, 0xC5, 0x07, 0x00, 0x00, 0x00, 0x00, 0x00, 0x00, 0xAB],
      mask := [0xFF, 0xFF, 0xFF, 0x00, 0x00, 0x00, 0x00, 0x00, 0x00, 0xFF] }
  | .rxAckDeviceId =>
    { pattern := [0xAA, 0xC5, 0x05, 0x00, 0x00, 0x00, 0x00, 0x00, 0x00, 0xAB],
      mask := [0xFF, 0xFF, 0xFF, 0x00, 0x00, 0x00, 0x00, 0x00, 0x00, 0xFF] }

/-- The command frame types (R68). -/
def commandFrameTypes : List FrameType :=
  [.txReportModeGet, .txReportModeSet, .txQueryData, .txSetDeviceId, .txSleepGet, .txSleepSet, .txFirmware, .txPeriodGet,
    .txPeriodSet]

/-- The response frame types (R69). -/
def responseFrameTypes : List FrameType :=
  [.rxMeasurement, .rxAckReportMode, .rxAckSleep, .rxAckPeriod, .rxAckFirmware, .rxAckDeviceId]

/-- `(b[i] AND mask[i]) = match[i]` for every `i`, on lists of one length (R74). -/
def matchesMask : List Byte → List Byte → List Byte → Bool
  | [], [], [] => true
  | b :: bs, k :: ks, p :: ps => (b &&& k == p) && matchesMask bs ks ps
  | _, _, _ => false

/-- A frame of the row's length is of the row's type (R74). -/
def ofType (t : FrameType) (b : List Byte) : Bool := matchesMask b (frameRow t).mask (frameRow t).pattern

/-- The 16-bit field at indices `i` and `i + 1`, low byte first (R42 to R44). -/
def fieldAt (b : List Byte) (i : Nat) : Half := Machine.deviceIdOf (Machine.byteAt b i) (Machine.byteAt b (i + 1))

/-- A 1-bit mode from a byte: 0 or 1, and nothing else (R72). -/
def modeOf (v : Byte) : Option (BitVec 1) :=
  if v = 0x00 then some 0 else if v = 0x01 then some 1 else none

/-- The instruction of a command frame of the type, from the bytes its mask leaves free. -/
def buildCommandFrame (t : FrameType) (b : List Byte) : Option Instr :=
  match t with
  | .txReportModeGet => some (.txReportModeGet (fieldAt b 15) (Machine.byteAt b 17))
  | .txReportModeSet => (modeOf (Machine.byteAt b 4)).map (fun m => .txReportModeSet m (fieldAt b 15) (Machine.byteAt b 17))
  | .txQueryData => some (.txQueryData (fieldAt b 15) (Machine.byteAt b 17))
  | .txSetDeviceId => some (.txSetDeviceId (fieldAt b 13) (fieldAt b 15) (Machine.byteAt b 17))
  | .txSleepGet => some (.txSleepGet (fieldAt b 15) (Machine.byteAt b 17))
  | .txSleepSet => (modeOf (Machine.byteAt b 4)).map (fun m => .txSleepSet m (fieldAt b 15) (Machine.byteAt b 17))
  | .txFirmware => some (.txFirmware (fieldAt b 15) (Machine.byteAt b 17))
  | .txPeriodGet => some (.txPeriodGet (fieldAt b 15) (Machine.byteAt b 17))
  | .txPeriodSet => some (.txPeriodSet (Machine.byteAt b 4) (fieldAt b 15) (Machine.byteAt b 17))
  | .rxMeasurement => none
  | .rxAckReportMode => none
  | .rxAckSleep => none
  | .rxAckPeriod => none
  | .rxAckFirmware => none
  | .rxAckDeviceId => none

/-- The instruction of a response frame of the type, from the bytes its mask leaves free. -/
def buildResponseFrame (t : FrameType) (b : List Byte) : Option Instr :=
  match t with
  | .rxMeasurement =>
    some (.rxMeasurement (Machine.byteAt b 2) (Machine.byteAt b 3) (Machine.byteAt b 4) (Machine.byteAt b 5) (fieldAt b 6) (Machine.byteAt b 8))
  | .rxAckReportMode =>
    some (.rxAckReportMode (Machine.byteAt b 3) (Machine.byteAt b 4) (Machine.byteAt b 5) (fieldAt b 6) (Machine.byteAt b 8))
  | .rxAckSleep =>
    some (.rxAckSleep (Machine.byteAt b 3) (Machine.byteAt b 4) (Machine.byteAt b 5) (fieldAt b 6) (Machine.byteAt b 8))
  | .rxAckPeriod =>
    some (.rxAckPeriod (Machine.byteAt b 3) (Machine.byteAt b 4) (Machine.byteAt b 5) (fieldAt b 6) (Machine.byteAt b 8))
  | .rxAckFirmware =>
    some (.rxAckFirmware (Machine.byteAt b 3) (Machine.byteAt b 4) (Machine.byteAt b 5) (fieldAt b 6) (Machine.byteAt b 8))
  | .rxAckDeviceId =>
    some (.rxAckDeviceId (Machine.byteAt b 3) (Machine.byteAt b 4) (Machine.byteAt b 5) (fieldAt b 6) (Machine.byteAt b 8))
  | .txReportModeGet => none
  | .txReportModeSet => none
  | .txQueryData => none
  | .txSetDeviceId => none
  | .txSleepGet => none
  | .txSleepSet => none
  | .txFirmware => none
  | .txPeriodGet => none
  | .txPeriodSet => none

/-- A command-frame event (R68, R74). -/
def decodeCommandFrame (b : List Byte) : Except DecodeError Instr :=
  match (commandFrameTypes.find? (fun t => ofType t b)).bind (fun t => buildCommandFrame t b) with
  | some i => .ok i
  | none => .error .notACommandFrame

/-- A response-frame event (R69, R74). -/
def decodeResponseFrame (b : List Byte) : Except DecodeError Instr :=
  match (responseFrameTypes.find? (fun t => ofType t b)).bind (fun t => buildResponseFrame t b) with
  | some i => .ok i
  | none => .error (.notAResponseFrame b)

/-! ### Host operations -/

/-- Bytes as a fixed-size operand, if there are exactly so many. -/
def asVector (n : Nat) (b : List Byte) : Option (Vector Byte n) :=
  if h : b.toArray.size = n then some ⟨b.toArray, h⟩ else none

/-- A read outcome: 0x00 and then the chunk for `Ok`, 0x01 alone for `Err`. -/
def readOutcomeOf : List Byte → Option ReadOutcome
  | [] => none
  | k :: chunk => if k = 0x00 then some (.ok chunk) else if k = 0x01 ∧ chunk = [] then some .err else none

/-- No operand bytes. -/
def noOperand (i : Instr) : List Byte → Option Instr
  | [] => some i
  | _ :: _ => none

/-- One operand byte. -/
def oneByte : List Byte → Option Byte
  | [v] => some v
  | _ => none

/-- Two operand bytes, low byte first. -/
def twoBytes : List Byte → Option Half
  | [lo, hi] => some (Machine.deviceIdOf lo hi)
  | _ => none

/-- A command id byte and twelve payload bytes. -/
def assembleOperands : List Byte → Option Instr
  | [] => none
  | cmd :: rest => (asVector 12 rest).map (fun p => .assemble cmd p)

/-- The OP codes of R71: `none` for a reserved OP, and otherwise the operation on the operand bytes, or `none` where they
do not spell its operands. -/
def hostOp (op : Byte) (rest : List Byte) (w : WriteOutcome) : Option (Option Instr) :=
  if op = 0x01 then some ((asVector 19 rest).map (fun f => .cksum19 f))
  else if op = 0x02 then some ((asVector 10 rest).map (fun f => .cksum10 f))
  else if op = 0x03 then some (assembleOperands rest)
  else if op = 0x04 then some (some (.decode10 rest))
  else if op = 0x05 then some (some (.parse19 rest))
  else if op = 0x10 then some (noOperand (.boot w) rest)
  else if op = 0x11 then some ((readOutcomeOf rest).map (fun r => .read r w))
  else if op = 0x12 then some (noOperand .awaitAck rest)
  else if op = 0x13 then some (noOperand .readMeas rest)
  else if op = 0x20 then some (noOperand (.getReportMode w) rest)
  else if op = 0x21 then some (((oneByte rest).bind modeOf).map (fun m => .setReportMode m w))
  else if op = 0x22 then some (noOperand (.queryData w) rest)
  else if op = 0x23 then some ((twoBytes rest).map (fun id => .setDeviceId id w))
  else if op = 0x24 then some (noOperand (.getSleep w) rest)
  else if op = 0x25 then some (((oneByte rest).bind modeOf).map (fun m => .setSleep m w))
  else if op = 0x26 then some (noOperand (.getFirmware w) rest)
  else if op = 0x27 then some (noOperand (.getPeriod w) rest)
  else if op = 0x28 then some ((oneByte rest).map (fun v => .setPeriod v w))
  else if op = 0x3F then some (noOperand .reset rest)
  else none

/-- A host-operation event (R71, R72): a reserved OP is told apart before its operands are looked at. -/
def decodeHostOp (b : List Byte) (w : WriteOutcome) : Except DecodeError Instr :=
  match b with
  | [] => .error .noOp
  | op :: rest =>
    match hostOp op rest w with
    | none => .error (.reservedOp op)
    | some none => .error (.operandBytes op)
    | some (some i) => .ok i

/-- The instruction an event carries. -/
def decode (e : Event) : Except DecodeError Instr :=
  match e.format with
  | .hostOp => decodeHostOp e.bytes e.w
  | .cmd19 => decodeCommandFrame e.bytes
  | .rsp10 => decodeResponseFrame e.bytes

/-! ### The encoder -/

/-- A host-operation event with no write outcome of its own: `Ok(19)`, as R73 has it where none is written. -/
def hostEvent (b : List Byte) : Event := { format := .hostOp, bytes := b, w := .ok 19 }

/-- A host-operation event with its write outcome (R170). -/
def hostEventWith (b : List Byte) (w : WriteOutcome) : Event := { format := .hostOp, bytes := b, w := w }

/-- A command-frame event (R61). -/
def commandEvent (cmd : Byte) (payload : Payload) (stamp : Half) (ck : Byte) : Event :=
  { format := .cmd19, bytes := Machine.cmdBytes cmd payload stamp ck, w := .ok 19 }

/-- A response-frame event (R62). -/
def responseEvent (tag b2 b3 b4 b5 : Byte) (id : Half) (ck : Byte) : Event :=
  { format := .rsp10, bytes := Machine.rspBytes tag b2 b3 b4 b5 id ck, w := .ok 19 }

/-- The bytes of a read outcome. -/
def readOutcomeBytes : ReadOutcome → List Byte
  | .ok chunk => 0x00 :: chunk
  | .err => [0x01]

/-- The event of an instruction. -/
def encode (i : Instr) : Event :=
  match i with
  | .cksum19 f => hostEvent (0x01 :: f.toList)
  | .cksum10 f => hostEvent (0x02 :: f.toList)
  | .assemble cmd payload => hostEvent (0x03 :: cmd :: payload.toList)
  | .decode10 b => hostEvent (0x04 :: b)
  | .parse19 b => hostEvent (0x05 :: b)
  | .boot w => hostEventWith [0x10] w
  | .read r w => hostEventWith (0x11 :: readOutcomeBytes r) w
  | .awaitAck => hostEvent [0x12]
  | .readMeas => hostEvent [0x13]
  | .getReportMode w => hostEventWith [0x20] w
  | .setReportMode m w => hostEventWith [0x21, Machine.modeByte m] w
  | .queryData w => hostEventWith [0x22] w
  | .setDeviceId id w => hostEventWith [0x23, Machine.lowByte id, Machine.highByte id] w
  | .getSleep w => hostEventWith [0x24] w
  | .setSleep m w => hostEventWith [0x25, Machine.modeByte m] w
  | .getFirmware w => hostEventWith [0x26] w
  | .getPeriod w => hostEventWith [0x27] w
  | .setPeriod v w => hostEventWith [0x28, v] w
  | .reset => hostEvent [0x3F]
  | .txReportModeGet stamp ck => commandEvent 0x02 Machine.zeroPayload stamp ck
  | .txReportModeSet m stamp ck => commandEvent 0x02 (Machine.setPayload (Machine.modeByte m)) stamp ck
  | .txQueryData stamp ck => commandEvent 0x04 Machine.zeroPayload stamp ck
  | .txSetDeviceId newId stamp ck => commandEvent 0x05 (Machine.newIdPayload newId) stamp ck
  | .txSleepGet stamp ck => commandEvent 0x06 Machine.zeroPayload stamp ck
  | .txSleepSet m stamp ck => commandEvent 0x06 (Machine.setPayload (Machine.modeByte m)) stamp ck
  | .txFirmware stamp ck => commandEvent 0x07 Machine.zeroPayload stamp ck
  | .txPeriodGet stamp ck => commandEvent 0x08 Machine.zeroPayload stamp ck
  | .txPeriodSet v stamp ck => commandEvent 0x08 (Machine.setPayload v) stamp ck
  | .rxMeasurement a b c d id ck => responseEvent 0xC0 a b c d id ck
  | .rxAckReportMode tf mv ig id ck => responseEvent 0xC5 0x02 tf mv ig id ck
  | .rxAckSleep tf mv ig id ck => responseEvent 0xC5 0x06 tf mv ig id ck
  | .rxAckPeriod tf mv ig id ck => responseEvent 0xC5 0x08 tf mv ig id ck
  | .rxAckFirmware y mo d id ck => responseEvent 0xC5 0x07 y mo d id ck
  | .rxAckDeviceId a b c id ck => responseEvent 0xC5 0x05 a b c id ck

/-! ### The host's table words -/

/-- The first `n` bytes of the number `w`, bit 0 the least significant bit of the first byte. -/
def wordBytes : Nat → Nat → List Byte
  | 0, _ => []
  | n + 1, w => BitVec.ofNat 8 w :: wordBytes n (w / 256)

/-- How many operand bytes of zeros complete an OP byte whose operands the table gives no bits: the fixed-size operands
of R71, and for a READ the byte that tells `Ok` from `Err`. A byte list is then the empty one. -/
def zeroOperandBytes (op : Byte) : Nat :=
  if op = 0x01 then 19
  else if op = 0x02 then 10
  else if op = 0x03 then 13
  else if op = 0x11 then 1
  else if op = 0x21 then 1
  else if op = 0x23 then 2
  else if op = 0x25 then 1
  else if op = 0x28 then 1
  else 0

/-- A host operation's bytes, completed with operand bytes of zeros up to its fixed size. -/
def padHostOp : List Byte → List Byte
  | [] => []
  | op :: rest => op :: (rest ++ List.replicate (zeroOperandBytes op - rest.length) 0x00)

/-- The event of a table word of `nbits` bits: 152 bits are a command frame, 80 bits a response frame, anything else a
host operation. The write outcome is `Ok(19)`, R73's default. -/
def tableWordEvent (nbits w : Nat) : Event :=
  if nbits = 152 then { format := .cmd19, bytes := wordBytes 19 w, w := .ok 19 }
  else if nbits = 80 then { format := .rsp10, bytes := wordBytes 10 w, w := .ok 19 }
  else hostEvent (padHostOp (wordBytes (nbits / 8) w))

/-- The instruction the decoder reads from a table word. -/
def decodeTableWord (nbits w : Nat) : Option Instr :=
  match decode (tableWordEvent nbits w) with
  | .ok i => some i
  | .error _ => none

end Sys2Proof
end

