-- ==== Sys2Proof/Machine/Fetch.lean ====
section
/-! DEFINITION. Taking the next host event (spec 20_memory.md R49, 43_sync_fsm.md R170), and what the block does with an
event whose bytes are no instruction of the table (30_encoding.md R70, R72). -/

namespace Sys2Proof.Machine

/-- The block after it has taken the next event: one event per step, in the order the host issues them (R49). -/
def takeEvent (rest : List Event) (s : State) : State := { s with inbox := rest }

/-- What an event that is no instruction does. A reserved OP is IllegalOp in every state (R72, R218). A response frame of no
listed type is decoded like any other, and the decoder names its error (R70, R140). Operands outside the interface types
and command frames no packer builds cannot be formed, and are refused by name (R72, 93 U9). -/
def undecodedEvent (e : DecodeError) (s : State) : Host.Outcome State Fault Refusal :=
  match e with
  | .reservedOp _ => .next (illegalOp s)
  | .notAResponseFrame b => execDecode10 b s
  | .operandBytes op => .refused (.operandNotFormed op)
  | .noOp => .refused .eventWithoutOp
  | .notACommandFrame => .refused .noSuchCommandFrame

/-- `s` with an event placed as the next one the block takes. -/
def placeEvent (e : Event) (s : State) : State := { s with inbox := e :: s.inbox }

end Sys2Proof.Machine
end

