-- ==== Sys2Proof/Machine/Step.lean ====
section
/-! DEFINITION. One step of the block (spec 43_sync_fsm.md R170): take the next host event, decode it and run it. Without an
event there is no step. -/

namespace Sys2Proof.Machine

/-- One step. -/
def step (s : State) : Host.Outcome State Fault Refusal :=
  match s.inbox with
  | [] => .fault .noHostEvent
  | e :: rest =>
    match decode e with
    | .ok i => exec i (takeEvent rest s)
    | .error err => undecodedEvent err (takeEvent rest s)

/-- `s` with the table word's event placed as the next host event, so that `step` takes and runs exactly it. -/
def State.withFetchWord (s : State) (nbits w : Nat) : State := placeEvent (tableWordEvent nbits w) s

end Sys2Proof.Machine
end

