-- ==== Sys2Proof/Safety.lean ====
section
/-! DEFINITION. What counts as a good state and a good run of the block, in the terms the statements use: the invariants of
spec 10_state.md R34, the canonical form of the transmit space, and how many more READ events a wait or the bootstrap can
take (43_sync_fsm.md R195). -/

namespace Sys2Proof.Machine

/-- The table of R34: what the flag and the counters hold in each state. -/
def registersOk (s : State) : Bool :=
  match s.fsmState with
  | .unconnected => !s.pendingRequest && s.readCount == 0 && s.pollCount == 0 && s.cycleCount == 0
  | .boot =>
    s.pendingRequest && s.readCount == 0 && decide (s.pollCount < s.params.pollsPerCycle) && decide (1 ≤ s.cycleCount) &&
      decide (s.cycleCount ≤ s.params.maxCycles)
  | .idle => s.readCount == 0 && s.pollCount == 0 && s.cycleCount == 0
  | .awaitAck =>
    s.pendingRequest && decide (s.readCount < s.params.maxReads) && s.pollCount == 0 && s.cycleCount == 0
  | .awaitMeas =>
    !s.pendingRequest && decide (s.readCount < s.params.maxReads) && s.pollCount == 0 && s.cycleCount == 0
  | .failed => !s.pendingRequest && s.readCount == 0 && s.pollCount == 0 && s.cycleCount == 0

/-- The invariant of the block: R34's table, the transmit space in canonical form with no index outside `tx_buf[0..18]`
(R24, R40), and legal retry bounds (R6). -/
def Invariant (s : State) : Bool :=
  registersOk s && Memory.wf s.txBuf && Memory.inTxBuf s.txBuf && s.params.legal

/-- The most READ events a busy state can still take before it ends, and 0 outside the busy states (R195). -/
def readsLeft (s : State) : Nat :=
  match s.fsmState with
  | .unconnected => 0
  | .boot => (s.params.maxCycles - s.cycleCount) * s.params.pollsPerCycle + (s.params.pollsPerCycle - s.pollCount)
  | .idle => 0
  | .awaitAck => s.params.maxReads - s.readCount
  | .awaitMeas => s.params.maxReads - s.readCount
  | .failed => 0

/-- A chunk that does not decode to an acknowledgement: what the bootstrap counts as a failed poll (R191, D15). -/
def noAck (chunk : List Byte) : Bool := (awaited isAck (decode10 chunk)).isNone

/-- A chunk that does not decode to a measurement: what the measurement wait counts as a failed read (R189). -/
def noMeasurement (chunk : List Byte) : Bool := (awaited isMeasurement (decode10 chunk)).isNone

/-- The READ events of a list of chunks, each with a successful resend if one is made. -/
def readEvents (chunks : List (List Byte)) : List Event := chunks.map (fun c => encode (.read (.ok c) (.ok 19)))

/-- The command operations 0x20 to 0x28 (R71, R176). -/
def isCommand : Instr → Bool
  | .cksum19 _ => false
  | .cksum10 _ => false
  | .assemble _ _ => false
  | .decode10 _ => false
  | .parse19 _ => false
  | .boot _ => false
  | .read _ _ => false
  | .awaitAck => false
  | .readMeas => false
  | .getReportMode _ => true
  | .setReportMode _ _ => true
  | .queryData _ => true
  | .setDeviceId _ _ => true
  | .getSleep _ => true
  | .setSleep _ _ => true
  | .getFirmware _ => true
  | .getPeriod _ => true
  | .setPeriod _ _ => true
  | .reset => false
  | .txReportModeGet _ _ => false
  | .txReportModeSet _ _ _ => false
  | .txQueryData _ _ => false
  | .txSetDeviceId _ _ _ => false
  | .txSleepGet _ _ => false
  | .txSleepSet _ _ _ => false
  | .txFirmware _ _ => false
  | .txPeriodGet _ _ => false
  | .txPeriodSet _ _ _ => false
  | .rxMeasurement _ _ _ _ _ _ => false
  | .rxAckReportMode _ _ _ _ _ => false
  | .rxAckSleep _ _ _ _ _ => false
  | .rxAckPeriod _ _ _ _ _ => false
  | .rxAckFirmware _ _ _ _ _ => false
  | .rxAckDeviceId _ _ _ _ _ => false

/-- SET_PERIOD with a period above `PERIOD_MAX` (R120, R185). -/
def periodOutOfRange : Instr → Bool
  | .cksum19 _ => false
  | .cksum10 _ => false
  | .assemble _ _ => false
  | .decode10 _ => false
  | .parse19 _ => false
  | .boot _ => false
  | .read _ _ => false
  | .awaitAck => false
  | .readMeas => false
  | .getReportMode _ => false
  | .setReportMode _ _ => false
  | .queryData _ => false
  | .setDeviceId _ _ => false
  | .getSleep _ => false
  | .setSleep _ _ => false
  | .getFirmware _ => false
  | .getPeriod _ => false
  | .setPeriod v _ => decide (Config.periodMax < v.toNat)
  | .reset => false
  | .txReportModeGet _ _ => false
  | .txReportModeSet _ _ _ => false
  | .txQueryData _ _ => false
  | .txSetDeviceId _ _ _ => false
  | .txSleepGet _ _ => false
  | .txSleepSet _ _ _ => false
  | .txFirmware _ _ => false
  | .txPeriodGet _ _ => false
  | .txPeriodSet _ _ _ => false
  | .rxMeasurement _ _ _ _ _ _ => false
  | .rxAckReportMode _ _ _ _ _ => false
  | .rxAckSleep _ _ _ _ _ => false
  | .rxAckPeriod _ _ _ _ _ => false
  | .rxAckFirmware _ _ _ _ _ => false
  | .rxAckDeviceId _ _ _ _ _ => false

/-- The gating table of R172, written out by row and state; a frame type run on its own is accepted where the operations
of its first row are (log entry 5). -/
def acceptedIn (i : Instr) (f : FsmState) : Bool :=
  match i with
  | .cksum19 _ => f == .unconnected || f == .idle || f == .failed
  | .cksum10 _ => f == .unconnected || f == .idle || f == .failed
  | .assemble _ _ => f == .unconnected || f == .idle || f == .failed
  | .decode10 _ => f == .unconnected || f == .idle || f == .failed
  | .parse19 _ => f == .unconnected || f == .idle || f == .failed
  | .boot _ => f == .unconnected
  | .read _ _ => f == .boot || f == .awaitAck || f == .awaitMeas
  | .awaitAck => f == .idle
  | .readMeas => f == .idle
  | .getReportMode _ => f == .idle
  | .setReportMode _ _ => f == .idle
  | .queryData _ => f == .idle
  | .setDeviceId _ _ => f == .idle
  | .getSleep _ => f == .idle
  | .setSleep _ _ => f == .idle
  | .getFirmware _ => f == .idle
  | .getPeriod _ => f == .idle
  | .setPeriod _ _ => f == .idle
  | .reset => true
  | .txReportModeGet _ _ => f == .unconnected || f == .idle || f == .failed
  | .txReportModeSet _ _ _ => f == .unconnected || f == .idle || f == .failed
  | .txQueryData _ _ => f == .unconnected || f == .idle || f == .failed
  | .txSetDeviceId _ _ _ => f == .unconnected || f == .idle || f == .failed
  | .txSleepGet _ _ => f == .unconnected || f == .idle || f == .failed
  | .txSleepSet _ _ _ => f == .unconnected || f == .idle || f == .failed
  | .txFirmware _ _ => f == .unconnected || f == .idle || f == .failed
  | .txPeriodGet _ _ => f == .unconnected || f == .idle || f == .failed
  | .txPeriodSet _ _ _ => f == .unconnected || f == .idle || f == .failed
  | .rxMeasurement _ _ _ _ _ _ => f == .unconnected || f == .idle || f == .failed
  | .rxAckReportMode _ _ _ _ _ => f == .unconnected || f == .idle || f == .failed
  | .rxAckSleep _ _ _ _ _ => f == .unconnected || f == .idle || f == .failed
  | .rxAckPeriod _ _ _ _ _ => f == .unconnected || f == .idle || f == .failed
  | .rxAckFirmware _ _ _ _ _ => f == .unconnected || f == .idle || f == .failed
  | .rxAckDeviceId _ _ _ _ _ => f == .unconnected || f == .idle || f == .failed

/-- The instruction with another write outcome, where it has one (R170). -/
def withWrite (w : WriteOutcome) : Instr → Instr
  | .cksum19 a => .cksum19 a
  | .cksum10 a => .cksum10 a
  | .assemble a b => .assemble a b
  | .decode10 a => .decode10 a
  | .parse19 a => .parse19 a
  | .boot _ => .boot w
  | .read a _ => .read a w
  | .awaitAck => .awaitAck
  | .readMeas => .readMeas
  | .getReportMode _ => .getReportMode w
  | .setReportMode a _ => .setReportMode a w
  | .queryData _ => .queryData w
  | .setDeviceId a _ => .setDeviceId a w
  | .getSleep _ => .getSleep w
  | .setSleep a _ => .setSleep a w
  | .getFirmware _ => .getFirmware w
  | .getPeriod _ => .getPeriod w
  | .setPeriod a _ => .setPeriod a w
  | .reset => .reset
  | .txReportModeGet a b => .txReportModeGet a b
  | .txReportModeSet a b c => .txReportModeSet a b c
  | .txQueryData a b => .txQueryData a b
  | .txSetDeviceId a b c => .txSetDeviceId a b c
  | .txSleepGet a b => .txSleepGet a b
  | .txSleepSet a b c => .txSleepSet a b c
  | .txFirmware a b => .txFirmware a b
  | .txPeriodGet a b => .txPeriodGet a b
  | .txPeriodSet a b c => .txPeriodSet a b c
  | .rxMeasurement a b c d e f => .rxMeasurement a b c d e f
  | .rxAckReportMode a b c d e => .rxAckReportMode a b c d e
  | .rxAckSleep a b c d e => .rxAckSleep a b c d e
  | .rxAckPeriod a b c d e => .rxAckPeriod a b c d e
  | .rxAckFirmware a b c d e => .rxAckFirmware a b c d e
  | .rxAckDeviceId a b c d e => .rxAckDeviceId a b c d e

/-- The operations that can change `pending_request` (R22): the command operations, BOOT, READ and RESET. -/
def writesPending : Instr → Bool
  | .cksum19 _ => false
  | .cksum10 _ => false
  | .assemble _ _ => false
  | .decode10 _ => false
  | .parse19 _ => false
  | .boot _ => true
  | .read _ _ => true
  | .awaitAck => false
  | .readMeas => false
  | .getReportMode _ => true
  | .setReportMode _ _ => true
  | .queryData _ => false
  | .setDeviceId _ _ => true
  | .getSleep _ => true
  | .setSleep _ _ => true
  | .getFirmware _ => true
  | .getPeriod _ => true
  | .setPeriod _ _ => true
  | .reset => true
  | .txReportModeGet _ _ => false
  | .txReportModeSet _ _ _ => false
  | .txQueryData _ _ => false
  | .txSetDeviceId _ _ _ => false
  | .txSleepGet _ _ => false
  | .txSleepSet _ _ _ => false
  | .txFirmware _ _ => false
  | .txPeriodGet _ _ => false
  | .txPeriodSet _ _ _ => false
  | .rxMeasurement _ _ _ _ _ _ => false
  | .rxAckReportMode _ _ _ _ _ => false
  | .rxAckSleep _ _ _ _ _ => false
  | .rxAckPeriod _ _ _ _ _ => false
  | .rxAckFirmware _ _ _ _ _ => false
  | .rxAckDeviceId _ _ _ _ _ => false

/-- The operations that can change `device_id` (R23): DECODE10, READ, RESET and the response frame types. -/
def writesDeviceId : Instr → Bool
  | .cksum19 _ => false
  | .cksum10 _ => false
  | .assemble _ _ => false
  | .decode10 _ => true
  | .parse19 _ => false
  | .boot _ => false
  | .read _ _ => true
  | .awaitAck => false
  | .readMeas => false
  | .getReportMode _ => false
  | .setReportMode _ _ => false
  | .queryData _ => false
  | .setDeviceId _ _ => false
  | .getSleep _ => false
  | .setSleep _ _ => false
  | .getFirmware _ => false
  | .getPeriod _ => false
  | .setPeriod _ _ => false
  | .reset => true
  | .txReportModeGet _ _ => false
  | .txReportModeSet _ _ _ => false
  | .txQueryData _ _ => false
  | .txSetDeviceId _ _ _ => false
  | .txSleepGet _ _ => false
  | .txSleepSet _ _ _ => false
  | .txFirmware _ _ => false
  | .txPeriodGet _ _ => false
  | .txPeriodSet _ _ _ => false
  | .rxMeasurement _ _ _ _ _ _ => true
  | .rxAckReportMode _ _ _ _ _ => true
  | .rxAckSleep _ _ _ _ _ => true
  | .rxAckPeriod _ _ _ _ _ => true
  | .rxAckFirmware _ _ _ _ _ => true
  | .rxAckDeviceId _ _ _ _ _ => true

/-- The transmit space after a frame was written over the whole of `tx_buf`, and nothing else (R24, R40). -/
def WrittenWith (old new : Memory) (f : Frame19) : Prop :=
  (∀ a, a < 19 → Memory.read new a = f.toList.getD a 0) ∧ ∀ a, 19 ≤ a → Memory.read new a = Memory.read old a

/-- The frame of a get command, of a data query or of a firmware request (R68: bytes 3 to 14 zero), stamped with `id`. -/
def getFrame (cmd : Byte) (id : Half) : Frame19 :=
  #v[0xAA, 0xB4, cmd, 0, 0, 0, 0, 0, 0, 0, 0, 0, 0, 0, 0, lowByte id, highByte id, cmd + lowByte id + highByte id, 0xAB]

/-- The frame of a set command (R68: byte 3 the set-flag 1, byte 4 the value), stamped with `id`. -/
def setFrame (cmd v : Byte) (id : Half) : Frame19 :=
  #v[0xAA, 0xB4, cmd, 0x01, v, 0, 0, 0, 0, 0, 0, 0, 0, 0, 0, lowByte id, highByte id,
    cmd + 0x01 + v + lowByte id + highByte id, 0xAB]

/-- The frame of SET_DEVICE_ID (R68: bytes 13 and 14 the new ID, low byte first), stamped with the old `id`. -/
def newIdFrame (newId id : Half) : Frame19 :=
  #v[0xAA, 0xB4, 0x05, 0, 0, 0, 0, 0, 0, 0, 0, 0, 0, lowByte newId, highByte newId, lowByte id, highByte id,
    0x05 + lowByte newId + highByte newId + lowByte id + highByte id, 0xAB]

/-- `i` hands the frame `f` to the transport and enters the wait: the whole next state (R174, R176). -/
def SendsAndWaits (i : Instr) (s : State) (f : Frame19) (pending : Bool) (wait : FsmState) : Prop :=
  ∃ m, WrittenWith s.txBuf m f ∧ exec i s = .next { s with
    pendingRequest := pending
    txBuf := m
    fsmState := wait
    readCount := 0
    status := .busy
    result := none
    txOut := some f
    decodeOut := none }

/-- `i` builds the frame `f` in `tx_buf` and answers it in `result`, with no transport access: the whole next state
(R110). -/
def BuildsFrame (i : Instr) (s : State) (f : Frame19) : Prop :=
  ∃ m, WrittenWith s.txBuf m f ∧ exec i s = .next { s with
    txBuf := m
    status := .ok
    result := some (.frame f)
    txOut := none
    decodeOut := none }

/-- `i` ends with a status and a result, writes no register besides, and makes no transport access: the whole next
state. -/
def EndsWith (i : Instr) (s : State) (st : Status) (res : Option Value) : Prop :=
  exec i s = .next { s with status := st, result := res, txOut := none, decodeOut := none }

/-- The instructions whose effect can write `tx_buf`: ASSEMBLE, the command operations, BOOT, READ (a bootstrap resend),
RESET, and the command frame types (R24). -/
def writesTxBuf : Instr → Bool
  | .cksum19 _ => false
  | .cksum10 _ => false
  | .assemble _ _ => true
  | .decode10 _ => false
  | .parse19 _ => false
  | .boot _ => true
  | .read _ _ => true
  | .awaitAck => false
  | .readMeas => false
  | .getReportMode _ => true
  | .setReportMode _ _ => true
  | .queryData _ => true
  | .setDeviceId _ _ => true
  | .getSleep _ => true
  | .setSleep _ _ => true
  | .getFirmware _ => true
  | .getPeriod _ => true
  | .setPeriod _ _ => true
  | .reset => true
  | .txReportModeGet _ _ => true
  | .txReportModeSet _ _ _ => true
  | .txQueryData _ _ => true
  | .txSetDeviceId _ _ _ => true
  | .txSleepGet _ _ => true
  | .txSleepSet _ _ _ => true
  | .txFirmware _ _ => true
  | .txPeriodGet _ _ => true
  | .txPeriodSet _ _ _ => true
  | .rxMeasurement _ _ _ _ _ _ => false
  | .rxAckReportMode _ _ _ _ _ => false
  | .rxAckSleep _ _ _ _ _ => false
  | .rxAckPeriod _ _ _ _ _ => false
  | .rxAckFirmware _ _ _ _ _ => false
  | .rxAckDeviceId _ _ _ _ _ => false

end Sys2Proof.Machine
end

