-- ==== Sys2Proof/Certificates/Slice0/Obligations.lean ====
section
/-! DEFINITION. The statements for the provers. -/

open Sys2Proof Sys2Proof.Machine

/-! ### The checksum generator -/

/-- R100: the checksum of bytes `lo` to `hi` is their natural-number sum, truncated to 8 bits, and no byte outside the
range enters it. -/
def Obligations.ChecksumIsTruncatedSum : Prop :=
  ∀ (b : List Byte) (lo hi : Nat), lo ≤ hi → hi < b.length →
    (sum8 b lo hi).toNat = (∑ i ∈ Finset.Icc lo hi, (b.getD i 0).toNat) % 256

/-- R103 item 1: the checksum does not depend on the order of the bytes in the range. The spec marks the law as derived
from R100. -/
def Obligations.ChecksumIgnoresByteOrder : Prop :=
  ∀ before mid mid' after : List Byte, mid.Perm mid' →
    sum8 (before ++ mid ++ after) before.length (before.length + mid.length - 1) =
      sum8 (before ++ mid' ++ after) before.length (before.length + mid'.length - 1)

/-- R103 item 2: changing exactly one byte in the range changes the checksum. The spec marks the law as derived from
R100. -/
def Obligations.SingleByteChangeChangesChecksum : Prop :=
  ∀ (b : List Byte) (lo hi i : Nat) (v : Byte), lo ≤ i → i ≤ hi → hi < b.length → v ≠ b.getD i 0 →
    sum8 (b.set i v) lo hi ≠ sum8 b lo hi

/-- R103 item 2, for the decoder: a frame that decodes, with exactly one byte changed between byte 2 and the checksum
byte, is a checksum mismatch. The spec marks the law as derived from R100. -/
def Obligations.AlteredInteriorByteIsRejected : Prop :=
  ∀ (b : List Byte) (p : ParsedResponse) (i : Nat) (v : Byte), Machine.decode10 b = .ok p → 2 ≤ i → i ≤ 8 →
    v ≠ b.getD i 0 → Machine.decode10 (b.set i v) = .err .checksumMismatch

/-- R103 item 4: the checksum of a range is the wrapped sum of the checksums of its two parts. The spec marks the law as
derived from R100. -/
def Obligations.ChecksumSplitsAtAnyByte : Prop :=
  ∀ (b : List Byte) (lo k hi : Nat), lo ≤ k → k < hi → hi < b.length → sum8 b lo hi = sum8 b lo k + sum8 b (k + 1) hi

/-- R101, R102: CKSUM19 and CKSUM10 answer the checksum of bytes 2 to 16 and 2 to 7 and write only `status` and `result`
in a non-busy state, and a busy state answers WrongState. -/
def Obligations.ChecksumOperations : Prop :=
  (∀ (f : Frame19) (s : State), busy s.fsmState = false →
    EndsWith (.cksum19 f) s .ok (some (.checksum (sum8 f.toList 2 16)))) ∧
  (∀ (f : Frame10) (s : State), busy s.fsmState = false →
    EndsWith (.cksum10 f) s .ok (some (.checksum (sum8 f.toList 2 7)))) ∧
  (∀ (f : Frame19) (s : State), busy s.fsmState = true → EndsWith (.cksum19 f) s .wrongState none) ∧
  ∀ (f : Frame10) (s : State), busy s.fsmState = true → EndsWith (.cksum10 f) s .wrongState none

/-! ### The frame assembler -/

/-- R110: in a non-busy state ASSEMBLE leaves in `tx_buf` and in `result` the 19 bytes the rule's pseudocode writes, the
checksum taken over the written bytes 2 to 16 last, and changes nothing else; a busy state answers WrongState. -/
def Obligations.AssembleBuildsTheFrame : Prop :=
  (∀ (cmd : Byte) (payload : Payload) (s : State), busy s.fsmState = false → Memory.wf s.txBuf = true →
    ∃ f : Frame19, BuildsFrame (.assemble cmd payload) s f ∧
      f.toList.getD 0 0 = 0xAA ∧ f.toList.getD 1 0 = 0xB4 ∧ f.toList.getD 2 0 = cmd ∧ f.toList.getD 18 0 = 0xAB ∧
      (∀ i, i < 12 → f.toList.getD (3 + i) 0 = payload.toList.getD i 0) ∧
      f.toList.getD 15 0 = lowByte s.deviceId ∧ f.toList.getD 16 0 = highByte s.deviceId ∧
      f.toList.getD 17 0 = sum8 f.toList 2 16) ∧
  ∀ (cmd : Byte) (payload : Payload) (s : State), busy s.fsmState = true →
    EndsWith (.assemble cmd payload) s .wrongState none

/-- R112, R114, R116, R118, R119 by the packers of R68: in a non-busy state the five command frame types without operands
build their frame. That a frame type runs on its own, with ASSEMBLE's outputs, is the model's choice (log entry 5). The
payload layout is the spec's own (decisions D7, D33). -/
def Obligations.GetFrameTypesBuildTheirFrames : Prop :=
  ∀ (stamp : Half) (ck : Byte) (s : State), busy s.fsmState = false → Memory.wf s.txBuf = true →
    BuildsFrame (.txReportModeGet stamp ck) s (getFrame 0x02 s.deviceId) ∧
    BuildsFrame (.txQueryData stamp ck) s (getFrame 0x04 s.deviceId) ∧
    BuildsFrame (.txSleepGet stamp ck) s (getFrame 0x06 s.deviceId) ∧
    BuildsFrame (.txFirmware stamp ck) s (getFrame 0x07 s.deviceId) ∧
    BuildsFrame (.txPeriodGet stamp ck) s (getFrame 0x08 s.deviceId)

/-- R113, R115, R117, R120 by the packers of R68: in a non-busy state the four command frame types with an operand build
their frame, and a period above 30 is OutOfRange before any frame is built. That a frame type runs on its own, with
ASSEMBLE's outputs, is the model's choice (log entry 5). The payload layout is the spec's own (decision D7). -/
def Obligations.SetFrameTypesBuildTheirFrames : Prop :=
  ∀ (stamp : Half) (ck : Byte) (s : State), busy s.fsmState = false → Memory.wf s.txBuf = true →
    (∀ m : BitVec 1, BuildsFrame (.txReportModeSet m stamp ck) s (setFrame 0x02 (m.setWidth 8) s.deviceId)) ∧
    (∀ m : BitVec 1, BuildsFrame (.txSleepSet m stamp ck) s (setFrame 0x06 (m.setWidth 8) s.deviceId)) ∧
    (∀ newId : Half, BuildsFrame (.txSetDeviceId newId stamp ck) s (newIdFrame newId s.deviceId)) ∧
    (∀ v : Byte, v.toNat ≤ 30 → BuildsFrame (.txPeriodSet v stamp ck) s (setFrame 0x08 v s.deviceId)) ∧
    (∀ v : Byte, 30 < v.toNat → EndsWith (.txPeriodSet v stamp ck) s .outOfRange none)

/-- R151, first half: parsing an assembled frame gives back its command id, its payload and its stamp. The parser is the
spec's own (decision D22). -/
def Obligations.AssembledFrameParsesBack : Prop :=
  ∀ (c : Byte) (p : Payload) (d : Half), c ∈ [(0x02 : Byte), 0x04, 0x05, 0x06, 0x07, 0x08] →
    Machine.parse19 (commandFrame c p d).toList = .ok { commandId := c, payload := p, deviceId := d }

/-! ### The frame disassembler -/

/-- R141: the decoder checks length, head and tail, checksum, then tag and embedded command id, and the first failure is
the one reported. Which echoed command ids are recognised, and so that 0x04 is not, is the spec's own choice (decision
D8). -/
def Obligations.DecoderReportsTheFirstFailure : Prop :=
  ∀ b : List Byte,
    (Machine.decode10 b = .err .badLength ↔ b.length ≠ 10) ∧
    (Machine.decode10 b = .err .badFraming ↔ b.length = 10 ∧ (b.getD 0 0 ≠ 0xAA ∨ b.getD 9 0 ≠ 0xAB)) ∧
    (Machine.decode10 b = .err .checksumMismatch ↔
      b.length = 10 ∧ b.getD 0 0 = 0xAA ∧ b.getD 9 0 = 0xAB ∧ b.getD 8 0 ≠ sum8 b 2 7) ∧
    (Machine.decode10 b = .err .unknownCommand ↔
      b.length = 10 ∧ b.getD 0 0 = 0xAA ∧ b.getD 9 0 = 0xAB ∧ b.getD 8 0 = sum8 b 2 7 ∧
      ¬(b.getD 1 0 = 0xC0 ∨
        b.getD 1 0 = 0xC5 ∧ b.getD 2 0 ∈ [(0x02 : Byte), 0x05, 0x06, 0x07, 0x08]))

/-- R143 to R148 with R69 and R151's second half: the response frame made of a tag, six payload bytes, their checksum and
the markers decodes to its variant with the fields of R62. The statement holds for either value of the open parameter
PM_HIGH_FIRST (R45), which says which byte of each PM field is the high one. The field positions and the byte order of
the ID are the spec's own (decisions D3 to D6), and so is the set of echoed ids (D8). -/
def Obligations.ResponseFramesDecodeToTheirVariants : Prop :=
  ∀ (b2 b3 b4 b5 lo hi : Byte),
    Machine.decode10 [0xAA, 0xC0, b2, b3, b4, b5, lo, hi, b2 + b3 + b4 + b5 + lo + hi, 0xAB] =
      .ok (.measurement (if Config.pmHighFirst then b2 ++ b3 else b3 ++ b2)
        (if Config.pmHighFirst then b4 ++ b5 else b5 ++ b4) (hi ++ lo)) ∧
    (∀ c ∈ [(0x02 : Byte), 0x06, 0x08],
      Machine.decode10 [0xAA, 0xC5, c, b3, b4, b5, lo, hi, c + b3 + b4 + b5 + lo + hi, 0xAB] =
        .ok (.configAck c b3 b4 (hi ++ lo))) ∧
    Machine.decode10 [0xAA, 0xC5, 0x07, b3, b4, b5, lo, hi, 0x07 + b3 + b4 + b5 + lo + hi, 0xAB] =
      .ok (.firmwareAck b3 b4 b5 (hi ++ lo)) ∧
    Machine.decode10 [0xAA, 0xC5, 0x05, b3, b4, b5, lo, hi, 0x05 + b3 + b4 + b5 + lo + hi, 0xAB] =
      .ok (.deviceIdAck (hi ++ lo))

/-- R150: the command-frame parser checks length, head and tail, checksum, then tag and command id, and the first failure
is the one reported (decision D22). -/
def Obligations.ParserReportsTheFirstFailure : Prop :=
  ∀ b : List Byte,
    (Machine.parse19 b = .err .badLength ↔ b.length ≠ 19) ∧
    (Machine.parse19 b = .err .badFraming ↔ b.length = 19 ∧ (b.getD 0 0 ≠ 0xAA ∨ b.getD 18 0 ≠ 0xAB)) ∧
    (Machine.parse19 b = .err .checksumMismatch ↔
      b.length = 19 ∧ b.getD 0 0 = 0xAA ∧ b.getD 18 0 = 0xAB ∧ b.getD 17 0 ≠ sum8 b 2 16) ∧
    (Machine.parse19 b = .err .unknownCommand ↔
      b.length = 19 ∧ b.getD 0 0 = 0xAA ∧ b.getD 18 0 = 0xAB ∧ b.getD 17 0 = sum8 b 2 16 ∧
      ¬(b.getD 1 0 = 0xB4 ∧ b.getD 2 0 ∈ [(0x02 : Byte), 0x04, 0x05, 0x06, 0x07, 0x08]))

/-- R140, R142, R150: in a non-busy state DECODE10 of a frame that decodes answers the response and caches its device ID,
and PARSE19 of a frame that parses answers the command and caches nothing; a busy state answers WrongState. That DECODE10
caches is decision D30, that PARSE19 does not is D22, and the gating is D13. -/
def Obligations.DisassemblerOperations : Prop :=
  (∀ (b : List Byte) (p : ParsedResponse) (s : State), busy s.fsmState = false → Machine.decode10 b = .ok p →
    exec (.decode10 b) s = .next { s with
      deviceId := responseId p, status := .ok, result := some (.response p), txOut := none, decodeOut := none }) ∧
  (∀ (b : List Byte) (c : ParsedCommand) (s : State), busy s.fsmState = false → Machine.parse19 b = .ok c →
    EndsWith (.parse19 b) s .ok (some (.command c))) ∧
  (∀ (b : List Byte) (s : State), busy s.fsmState = true → EndsWith (.decode10 b) s .wrongState none) ∧
  ∀ (b : List Byte) (s : State), busy s.fsmState = true → EndsWith (.parse19 b) s .wrongState none

/-- R149: a decode that fails yields no field values: `result` is NONE and no register but `status` changes, for DECODE10
and PARSE19; and a READ whose chunk fails to decode leaves `device_id` and yields no result. The command-frame parser is
the spec's own (decision D22). -/
def Obligations.FailedDecodeYieldsNothing : Prop :=
  (∀ (b : List Byte) (e : FrameError) (s : State), busy s.fsmState = false → Machine.decode10 b = .err e →
    EndsWith (.decode10 b) s e.toStatus none) ∧
  (∀ (b : List Byte) (e : FrameError) (s : State), busy s.fsmState = false → Machine.parse19 b = .err e →
    EndsWith (.parse19 b) s e.toStatus none) ∧
  ∀ (b : List Byte) (e : FrameError) (w : WriteOutcome) (s t : State), Machine.decode10 b = .err e →
    exec (.read (.ok b) w) s = .next t → t.result = none ∧ t.deviceId = s.deviceId

/-- R142: every successful decode of a chunk the block takes caches the device ID the frame carries, whatever the variant
and whatever the wait, and every failed one leaves it (decision D9). That the chunk is one candidate frame is decision
D16. -/
def Obligations.EveryDecodedChunkCachesItsDeviceId : Prop :=
  ∀ (chunk : List Byte) (w : WriteOutcome) (s t : State), busy s.fsmState = true →
    exec (.read (.ok chunk) w) s = .next t →
      t.decodeOut = some (Machine.decode10 chunk) ∧
      (∀ p, Machine.decode10 chunk = .ok p → t.deviceId = responseFrameId chunk) ∧
      ∀ e, Machine.decode10 chunk = .err e → t.deviceId = s.deviceId

/-- R143 to R148: in a non-busy state a response frame type whose checksum byte is right answers its response and caches
its device ID. That a frame type runs on its own, with DECODE10's registers, is the model's choice (log entry 5). The
field positions are the spec's own (decisions D3 to D6). -/
def Obligations.ResponseFrameTypesDecode : Prop :=
  ∀ (a b c d : Byte) (id : Half) (s : State), busy s.fsmState = false →
    exec (.rxMeasurement a b c d id (a + b + c + d + lowByte id + highByte id)) s = .next { s with
      deviceId := id, status := .ok, result := some (.response (.measurement (pmRawOf a b) (pmRawOf c d) id)),
      txOut := none, decodeOut := none } ∧
    exec (.rxAckReportMode a b c id (0x02 + a + b + c + lowByte id + highByte id)) s = .next { s with
      deviceId := id, status := .ok, result := some (.response (.configAck 0x02 a b id)),
      txOut := none, decodeOut := none } ∧
    exec (.rxAckSleep a b c id (0x06 + a + b + c + lowByte id + highByte id)) s = .next { s with
      deviceId := id, status := .ok, result := some (.response (.configAck 0x06 a b id)),
      txOut := none, decodeOut := none } ∧
    exec (.rxAckPeriod a b c id (0x08 + a + b + c + lowByte id + highByte id)) s = .next { s with
      deviceId := id, status := .ok, result := some (.response (.configAck 0x08 a b id)),
      txOut := none, decodeOut := none } ∧
    exec (.rxAckFirmware a b c id (0x07 + a + b + c + lowByte id + highByte id)) s = .next { s with
      deviceId := id, status := .ok, result := some (.response (.firmwareAck a b c id)),
      txOut := none, decodeOut := none } ∧
    exec (.rxAckDeviceId a b c id (0x05 + a + b + c + lowByte id + highByte id)) s = .next { s with
      deviceId := id, status := .ok, result := some (.response (.deviceIdAck id)),
      txOut := none, decodeOut := none }

/-- R140 against R143 to R148: a response frame type run on its own is DECODE10 of its ten bytes, with any checksum byte,
in every state (the gating is the model's choice, log entry 5). -/
def Obligations.ResponseFrameTypesAgreeWithDecoder : Prop :=
  ∀ (a b c d : Byte) (id : Half) (ck : Byte) (s : State),
    exec (.rxMeasurement a b c d id ck) s = exec (.decode10 (rspBytes 0xC0 a b c d id ck)) s ∧
    exec (.rxAckReportMode a b c id ck) s = exec (.decode10 (rspBytes 0xC5 0x02 a b c id ck)) s ∧
    exec (.rxAckSleep a b c id ck) s = exec (.decode10 (rspBytes 0xC5 0x06 a b c id ck)) s ∧
    exec (.rxAckPeriod a b c id ck) s = exec (.decode10 (rspBytes 0xC5 0x08 a b c id ck)) s ∧
    exec (.rxAckFirmware a b c id ck) s = exec (.decode10 (rspBytes 0xC5 0x07 a b c id ck)) s ∧
    exec (.rxAckDeviceId a b c id ck) s = exec (.decode10 (rspBytes 0xC5 0x05 a b c id ck)) s

/-! ### The command operations -/

/-- R174, R176, R177, R181, R183, R184: with no request outstanding and the write reported whole, the four configuration
commands without operands set the flag, hand their frame to the transport and wait for the acknowledgement. The payload
layout, the gating and what counts as a successful write are the spec's own (decisions D7, D33, D13, D17). -/
def Obligations.GetCommandsSendAndWait : Prop :=
  ∀ s : State, s.fsmState = .idle → s.pendingRequest = false → Memory.wf s.txBuf = true →
    SendsAndWaits (.getReportMode (.ok 19)) s (getFrame 0x02 s.deviceId) true .awaitAck ∧
    SendsAndWaits (.getSleep (.ok 19)) s (getFrame 0x06 s.deviceId) true .awaitAck ∧
    SendsAndWaits (.getFirmware (.ok 19)) s (getFrame 0x07 s.deviceId) true .awaitAck ∧
    SendsAndWaits (.getPeriod (.ok 19)) s (getFrame 0x08 s.deviceId) true .awaitAck

/-- R174, R176, R178, R180, R182, R185: the same of the four configuration commands with an operand. The payload layout,
the gating and what counts as a successful write are the spec's own (decisions D7, D13, D17). -/
def Obligations.SetCommandsSendAndWait : Prop :=
  ∀ s : State, s.fsmState = .idle → s.pendingRequest = false → Memory.wf s.txBuf = true →
    (∀ m : BitVec 1, SendsAndWaits (.setReportMode m (.ok 19)) s (setFrame 0x02 (m.setWidth 8) s.deviceId) true .awaitAck) ∧
    (∀ m : BitVec 1, SendsAndWaits (.setSleep m (.ok 19)) s (setFrame 0x06 (m.setWidth 8) s.deviceId) true .awaitAck) ∧
    (∀ id : Half, SendsAndWaits (.setDeviceId id (.ok 19)) s (newIdFrame id s.deviceId) true .awaitAck) ∧
    ∀ v : Byte, v.toNat ≤ 30 → SendsAndWaits (.setPeriod v (.ok 19)) s (setFrame 0x08 v s.deviceId) true .awaitAck

/-- R174, R176, R179: QUERY_DATA sets no flag and waits for a measurement. The gating and what counts as a successful
write are the spec's own (decisions D13, D17). -/
def Obligations.QueryDataSendsAndWaits : Prop :=
  ∀ s : State, s.fsmState = .idle → s.pendingRequest = false → Memory.wf s.txBuf = true →
    SendsAndWaits (.queryData (.ok 19)) s (getFrame 0x04 s.deviceId) false .awaitMeas

/-- R171, R174, R176: a write that is not `Ok(19)` ends a command in IDLE with IoError; the frame was handed out and
stands in `tx_buf`, and the flag is as the send left it: set for a configuration command, clear for the data query. What
counts as a failed write and what it leaves are the spec's own (decisions D17, D18). -/
def Obligations.FailedWriteLeavesTheRequestPending : Prop :=
  ∀ (i : Instr) (w : WriteOutcome) (s : State), isCommand i = true → w ≠ .ok 19 →
    periodOutOfRange i = false → s.fsmState = .idle → s.pendingRequest = false → Memory.wf s.txBuf = true →
    ∃ (m : Memory) (f : Frame19) (t : State), exec (withWrite (.ok 19) i) s = .next t ∧ t.txOut = some f ∧
      WrittenWith s.txBuf m f ∧ exec (withWrite w i) s = .next { s with
      pendingRequest := writesPending i
      txBuf := m
      status := .ioError
      result := none
      txOut := some f
      decodeOut := none }

/-- R175, R216: while a configuration request is outstanding, every command operation (but an out-of-range SET_PERIOD,
see R219) and READ_MEAS are rejected in IDLE with RequestPending: no frame, no transport access, no other register.
Rejecting is the spec's own choice (decision D12). -/
def Obligations.SecondRequestIsRejected : Prop :=
  ∀ (i : Instr) (s : State), isCommand i = true ∨ i = .readMeas → periodOutOfRange i = false →
    s.fsmState = .idle → s.pendingRequest = true → EndsWith i s .requestPending none

/-- R213: SET_PERIOD above 30 is OutOfRange with only `status` and `result` written, whatever the flag, and the working
period is the only operand range the block checks. That TX.PERIOD.SET runs on its own is the model's choice (log entry
5). -/
def Obligations.OutOfRangeIsThePeriodCheckAlone : Prop :=
  (∀ (v : Byte) (w : WriteOutcome) (s : State), 30 < v.toNat → s.fsmState = .idle →
    EndsWith (.setPeriod v w) s .outOfRange none) ∧
  ∀ (i : Instr) (s t : State), exec i s = .next t → t.status = .outOfRange →
    EndsWith i s .outOfRange none ∧
      ((∃ v w, i = .setPeriod v w ∧ 30 < v.toNat) ∨ ∃ v stamp ck, i = .txPeriodSet v stamp ck ∧ 30 < v.toNat)

/-! ### The waits -/

/-- R186, R187: in IDLE, AWAIT_ACK enters its wait when a request is outstanding and completes at once when none is
(decision D25), and READ_MEAS enters its wait when none is; neither sends a frame. -/
def Obligations.WaitOperationsStart : Prop :=
  ∀ s : State, s.fsmState = .idle →
    (s.pendingRequest = true → exec .awaitAck s = .next { s with
      fsmState := .awaitAck, readCount := 0, status := .busy, result := none, txOut := none, decodeOut := none }) ∧
    (s.pendingRequest = false → EndsWith .awaitAck s .ok none) ∧
    (s.pendingRequest = false → exec .readMeas s = .next { s with
      fsmState := .awaitMeas, readCount := 0, status := .busy, result := none, txOut := none, decodeOut := none })

/-- R188: an acknowledgement read in AWAIT_ACK ends the wait, whatever command it echoes; any other chunk is counted, and
the MAX_READS-th ends the wait in Timeout with the flag cleared (decisions D10, D11). -/
def Obligations.AckWaitReadsOneChunk : Prop :=
  ∀ (chunk : List Byte) (w : WriteOutcome) (s : State), s.fsmState = .awaitAck →
    (∀ p, Machine.decode10 chunk = .ok p → isAck p = true → exec (.read (.ok chunk) w) s = .next { s with
      pendingRequest := false, deviceId := responseId p, fsmState := .idle, readCount := 0, status := .ok,
      result := some (.response p), txOut := none, decodeOut := some (.ok p) }) ∧
    (noAck chunk = true → s.readCount + 1 = s.params.maxReads → exec (.read (.ok chunk) w) s = .next { s with
      pendingRequest := false, deviceId := (cacheId (Machine.decode10 chunk) s).deviceId, fsmState := .idle,
      readCount := 0, status := .timeout, result := none, txOut := none, decodeOut := some (Machine.decode10 chunk) }) ∧
    (noAck chunk = true → s.readCount + 1 ≠ s.params.maxReads → exec (.read (.ok chunk) w) s = .next { s with
      deviceId := (cacheId (Machine.decode10 chunk) s).deviceId, readCount := s.readCount + 1, status := .busy,
      result := none, txOut := none, decodeOut := some (Machine.decode10 chunk) })

/-- R189: a measurement read in AWAIT_MEAS ends the wait; any other chunk is counted, and the MAX_READS-th ends the wait
in Timeout; the flag is not written (decision D19). -/
def Obligations.MeasurementWaitReadsOneChunk : Prop :=
  ∀ (chunk : List Byte) (w : WriteOutcome) (s : State), s.fsmState = .awaitMeas →
    (∀ p, Machine.decode10 chunk = .ok p → isAck p = false → exec (.read (.ok chunk) w) s = .next { s with
      deviceId := responseId p, fsmState := .idle, readCount := 0, status := .ok,
      result := some (.response p), txOut := none, decodeOut := some (.ok p) }) ∧
    (noMeasurement chunk = true → s.readCount + 1 = s.params.maxReads → exec (.read (.ok chunk) w) s = .next { s with
      deviceId := (cacheId (Machine.decode10 chunk) s).deviceId, fsmState := .idle, readCount := 0, status := .timeout,
      result := none, txOut := none, decodeOut := some (Machine.decode10 chunk) }) ∧
    (noMeasurement chunk = true → s.readCount + 1 ≠ s.params.maxReads → exec (.read (.ok chunk) w) s = .next { s with
      deviceId := (cacheId (Machine.decode10 chunk) s).deviceId, readCount := s.readCount + 1, status := .busy,
      result := none, txOut := none, decodeOut := some (Machine.decode10 chunk) })

/-! ### The bootstrap -/

/-- R190: BOOT sends the firmware request and enters the bootstrap's first cycle; a write that is not `Ok(19)` is fatal
to the session (decision D32). What counts as a successful write is decision D17. -/
def Obligations.BootSendsTheFirmwareRequest : Prop :=
  ∀ (w : WriteOutcome) (s : State), s.fsmState = .unconnected → Memory.wf s.txBuf = true →
    ∃ m, WrittenWith s.txBuf m (getFrame 0x07 s.deviceId) ∧
      exec (.boot (.ok 19)) s = .next { s with
        pendingRequest := true, txBuf := m, fsmState := .boot, cycleCount := 1, pollCount := 0, status := .busy,
        result := none, txOut := some (getFrame 0x07 s.deviceId), decodeOut := none } ∧
      (w ≠ .ok 19 → exec (.boot w) s = .next { s with
        pendingRequest := false, txBuf := m, fsmState := .failed, status := .ioError,
        result := none, txOut := some (getFrame 0x07 s.deviceId), decodeOut := none })

/-- R191: one poll of the bootstrap: any acknowledgement succeeds; a failed poll continues the cycle, exhausts the last
one, or resends the request under the device ID the chunk may just have cached, and a failed resend is fatal (decisions
D10, D14, D15, D29, D32). -/
def Obligations.BootstrapPollsOneChunk : Prop :=
  ∀ (chunk : List Byte) (w : WriteOutcome) (s : State), s.fsmState = .boot → Memory.wf s.txBuf = true →
    (∀ p, Machine.decode10 chunk = .ok p → isAck p = true → exec (.read (.ok chunk) w) s = .next { s with
      pendingRequest := false, deviceId := responseId p, fsmState := .idle, pollCount := 0, cycleCount := 0,
      status := .ok, result := some (.response p), txOut := none, decodeOut := some (.ok p) }) ∧
    (noAck chunk = true → s.pollCount + 1 < s.params.pollsPerCycle → exec (.read (.ok chunk) w) s = .next { s with
      deviceId := (cacheId (Machine.decode10 chunk) s).deviceId, pollCount := s.pollCount + 1, status := .busy,
      result := none, txOut := none, decodeOut := some (Machine.decode10 chunk) }) ∧
    (noAck chunk = true → s.params.pollsPerCycle ≤ s.pollCount + 1 → s.cycleCount = s.params.maxCycles →
      exec (.read (.ok chunk) w) s = .next { s with
      pendingRequest := false, deviceId := (cacheId (Machine.decode10 chunk) s).deviceId, fsmState := .failed,
      pollCount := 0, cycleCount := 0, status := .unreachable, result := none, txOut := none,
      decodeOut := some (Machine.decode10 chunk) }) ∧
    (noAck chunk = true → s.params.pollsPerCycle ≤ s.pollCount + 1 → s.cycleCount ≠ s.params.maxCycles →
      ∃ m, WrittenWith s.txBuf m (getFrame 0x07 (cacheId (Machine.decode10 chunk) s).deviceId) ∧
        exec (.read (.ok chunk) (.ok 19)) s = .next { s with
          pendingRequest := true, deviceId := (cacheId (Machine.decode10 chunk) s).deviceId, txBuf := m, pollCount := 0,
          cycleCount := s.cycleCount + 1, status := .busy, result := none,
          txOut := some (getFrame 0x07 (cacheId (Machine.decode10 chunk) s).deviceId),
          decodeOut := some (Machine.decode10 chunk) } ∧
        (w ≠ .ok 19 → exec (.read (.ok chunk) w) s = .next { s with
          pendingRequest := false, deviceId := (cacheId (Machine.decode10 chunk) s).deviceId, txBuf := m,
          fsmState := .failed, pollCount := 0, cycleCount := 0, status := .ioError, result := none,
          txOut := some (getFrame 0x07 (cacheId (Machine.decode10 chunk) s).deviceId),
          decodeOut := some (Machine.decode10 chunk) }))

/-- R192, R193: a failed read ends the bootstrap in FAILED and a wait in IDLE with the flag unchanged; outside the busy
states a READ is WrongState, and its outcome is not consumed. These are the spec's own choices (decisions D13, D18, D32).
-/
def Obligations.FailedAndMisplacedReads : Prop :=
  ∀ (w : WriteOutcome) (s : State),
    (s.fsmState = .boot → exec (.read .err w) s = .next { s with
      pendingRequest := false, fsmState := .failed, pollCount := 0, cycleCount := 0, status := .ioError,
      result := none, txOut := none, decodeOut := none }) ∧
    (s.fsmState = .awaitAck ∨ s.fsmState = .awaitMeas → exec (.read .err w) s = .next { s with
      fsmState := .idle, readCount := 0, status := .ioError, result := none, txOut := none, decodeOut := none }) ∧
    (busy s.fsmState = false → ∀ r, EndsWith (.read r w) s .wrongState none)

/-! ### Reset -/

/-- R240, R242: in every state that meets the invariant, RESET gives the reset state, with the parameters and the host
events not yet taken left as they are. That RESET leaves the two outputs NONE is the model's (log entry 6), and so is
that the later events and the retry bounds are held in the state (log entries 3 and 12). -/
def Obligations.ResetGivesTheResetState : Prop :=
  ∀ s : State, Invariant s = true → exec .reset s = .next { State.reset with params := s.params, inbox := s.inbox }

/-- R240 (with R22 to R30), R241: what reset leaves in every register, the 19 bytes of `tx_buf` read one by one; every
value but `device_id`'s is the spec's own decision D21. The retry bounds there are the default values of R6, and that the
state carries them is the model's choice (log entry 12). -/
def Obligations.ResetValues : Prop :=
  State.reset.pendingRequest = false ∧ State.reset.deviceId = 0xFFFF ∧
  (∀ a, a < 19 → Memory.read State.reset.txBuf a = 0x00) ∧ State.reset.fsmState = .unconnected ∧
  State.reset.readCount = 0 ∧ State.reset.pollCount = 0 ∧ State.reset.cycleCount = 0 ∧
  State.reset.status = .ok ∧ State.reset.result = none ∧
  State.reset.params.maxReads = 20 ∧ State.reset.params.pollsPerCycle = 2 ∧ State.reset.params.maxCycles = 10

/-! ### The whole machine -/

/-- R170, R221: every instruction, with any operands and in any state, ends with a next state: an error is a status code,
and nothing stops the block. The spec's decisions D1 and D28 make an error a status code. -/
def Obligations.EveryInstructionCompletes : Prop :=
  ∀ (i : Instr) (s : State), ∃ t, exec i s = .next t

/-- R172, R217: an event the state does not accept ends in WrongState, changes nothing else and makes no transport
access; and an event the state accepts never ends in WrongState. The table is the spec's own (decision D13). The rows of
the frame types are the model's choice (log entry 5). -/
def Obligations.GatingTable : Prop :=
  (∀ (i : Instr) (s : State), acceptedIn i s.fsmState = false → EndsWith i s .wrongState none) ∧
  ∀ (i : Instr) (s t : State), acceptedIn i s.fsmState = true → exec i s = .next t → t.status ≠ .wrongState

/-- R249, R172: once an operation is accepted, only READ and RESET change anything but `status`, `result` and the two
outputs until it ends. The gating is the spec's own (decision D13). -/
def Obligations.BusyStatesAcceptOnlyReadAndReset : Prop :=
  ∀ (i : Instr) (s t : State), busy s.fsmState = true → exec i s = .next t →
    (∃ r w, i = .read r w) ∨ i = .reset ∨
      t = { s with status := .wrongState, result := none, txOut := none, decodeOut := none }

/-- R25, R214: only RESET leaves FAILED. The state is the spec's own (decision D13). -/
def Obligations.OnlyResetLeavesFailed : Prop :=
  ∀ (i : Instr) (s t : State), s.fsmState = .failed → exec i s = .next t → t.fsmState = .failed ∨ i = .reset

/-- R219: the one status a command operation ends with, by the order IllegalOp aside: WrongState, OutOfRange,
RequestPending, IoError, BUSY (the order of the spec's decision D13). -/
def Obligations.CommandStatusPriority : Prop :=
  ∀ (i : Instr) (w : WriteOutcome) (s t : State), isCommand i = true → exec (withWrite w i) s = .next t →
    t.status =
      if s.fsmState ≠ .idle then .wrongState
      else if periodOutOfRange i = true then .outOfRange
      else if s.pendingRequest = true then .requestPending
      else if w ≠ .ok 19 then .ioError
      else .busy

/-- R23: `device_id` is written only by a successful decode and by RESET. That a failed decode leaves it is decision D9.
-/
def Obligations.DeviceIdChangesOnlyByDecodeOrReset : Prop :=
  ∀ (i : Instr) (s t : State), exec i s = .next t → t.deviceId ≠ s.deviceId →
    i = .reset ∨ (writesDeviceId i = true ∧
      ∃ p, responseId p = t.deviceId ∧ (t.decodeOut = some (.ok p) ∨ t.result = some (.response p)))

/-- R22: the flag changes only in a configuration command, BOOT, READ or RESET, and it is set only by a step that hands a
frame to the transport. The list of causes holds the spec's own decisions D11, D14 and D18. -/
def Obligations.PendingRequestChangesOnlyWhereTheSpecSays : Prop :=
  ∀ (i : Instr) (s t : State), exec i s = .next t → t.pendingRequest ≠ s.pendingRequest →
    writesPending i = true ∧ (t.pendingRequest = true → t.txOut.isSome = true)

/-- R24: an instruction that assembles no frame and is no RESET leaves every byte of `tx_buf` as it was, and so does a
command operation, BOOT or READ that hands out no frame. That there is one buffer is decision D26. -/
def Obligations.TransmitBufferFrame : Prop :=
  ∀ (i : Instr) (s t : State), exec i s = .next t →
    (writesTxBuf i = false → ∀ a, Memory.read t.txBuf a = Memory.read s.txBuf a) ∧
    (isCommand i = true ∨ (∃ w, i = .boot w) ∨ (∃ r w, i = .read r w) → t.txOut = none →
      ∀ a, Memory.read t.txBuf a = Memory.read s.txBuf a)

/-- R26 to R28: the counters change only in READ, BOOT, RESET and the operations that enter a wait. The counters'
encoding and counting are the spec's own (decisions D14, D19). -/
def Obligations.CountersFrame : Prop :=
  ∀ (i : Instr) (s t : State), exec i s = .next t →
    (t.pollCount ≠ s.pollCount ∨ t.cycleCount ≠ s.cycleCount →
      (∃ w, i = .boot w) ∨ (∃ r w, i = .read r w) ∨ i = .reset) ∧
    (t.readCount ≠ s.readCount →
      isCommand i = true ∨ i = .awaitAck ∨ i = .readMeas ∨ (∃ r w, i = .read r w) ∨ i = .reset)

/-- R194 item 1: every frame the block hands to the transport is handed out while no configuration request is
outstanding, but for a bootstrap resend, which clears the flag first. The spec marks the property as derived. -/
def Obligations.NoSendWhileARequestIsOutstanding : Prop :=
  ∀ (i : Instr) (s t : State), Invariant s = true → exec i s = .next t → t.txOut.isSome = true →
    s.pendingRequest = false ∨ (s.fsmState = .boot ∧ ∃ r w, i = .read r w)

/-- R46, R111, R174: a frame the block hands to the transport stands in `tx_buf` byte for byte, parses as a command frame
of the dispatcher table, and is stamped with the device ID the block then holds, under a checksum taken with that stamp.
The parser is the spec's own (decision D22), and so is the stamp of a resend (D29). -/
def Obligations.EverySentFrameIsBufferedAndParses : Prop :=
  ∀ (i : Instr) (s t : State) (f : Frame19), Memory.wf s.txBuf = true → exec i s = .next t → t.txOut = some f →
    (∀ a, a < 19 → Memory.read t.txBuf a = f.toList.getD a 0) ∧
    ∃ (c : Byte) (p : Payload), c ∈ [(0x02 : Byte), 0x04, 0x05, 0x06, 0x07, 0x08] ∧
      Machine.parse19 f.toList = .ok { commandId := c, payload := p, deviceId := t.deviceId }

/-- R194 item 3: every exit from AWAIT_ACK other than by an IoError leaves no request outstanding. The spec marks the
property as derived. -/
def Obligations.AckWaitExitsCleanly : Prop :=
  ∀ (i : Instr) (s t : State), s.fsmState = .awaitAck → exec i s = .next t → t.fsmState ≠ .awaitAck →
    t.status ≠ .ioError → t.pendingRequest = false

/-- R170, R171: the write outcome matters only as far as a frame is handed out, and then only by whether it is `Ok(19)`.
That only `Ok(19)` is a success is decision D17. -/
def Obligations.WriteOutcomeMattersOnlyAsSuccess : Prop :=
  ∀ (i : Instr) (w w' : WriteOutcome) (s t : State), exec (withWrite w i) s = .next t →
    (t.txOut = none ∨ (w = .ok 19 ↔ w' = .ok 19)) → exec (withWrite w' i) s = .next t

/-- R195: every READ that leaves a busy state busy uses up one of the reads it has left. The spec marks the bounds as
derived. -/
def Obligations.EveryReadUsesUpTheBudget : Prop :=
  ∀ (r : ReadOutcome) (w : WriteOutcome) (s t : State), Invariant s = true → busy s.fsmState = true →
    exec (.read r w) s = .next t → busy t.fsmState = true →
    t.fsmState = s.fsmState ∧ readsLeft t + 1 = readsLeft s

/-- R195, and E6 of 95_test_vectors.md: a bootstrap that never reads an acknowledgement gives up after exactly
POLLS_PER_CYCLE * MAX_CYCLES polls, for every legal value of the two (R6, 93 U17): it is still polling after each fewer
number `k` of them, in cycle 1 + k / POLLS_PER_CYCLE, and the last ends it in FAILED with Unreachable. The counting is
decision D14, and a failed poll is decision D15. -/
def Obligations.BootstrapGivesUpAfterItsPolls : Prop :=
  ∀ (s : State) (chunks : List (List Byte)) (rest : List Event), s.params.legal = true → s.fsmState = .boot →
    s.pollCount = 0 → s.cycleCount = 1 → chunks.length = s.params.pollsPerCycle * s.params.maxCycles →
    (∀ c ∈ chunks, noAck c = true) → s.inbox = readEvents chunks ++ rest →
    (∀ k, k < s.params.pollsPerCycle * s.params.maxCycles → ∃ t, Host.Core.run core k s = .next t ∧
      State.fsmState t = .boot ∧ State.pollCount t = k % s.params.pollsPerCycle ∧
      State.cycleCount t = 1 + k / s.params.pollsPerCycle) ∧
    ∃ t, Host.Core.run core (s.params.pollsPerCycle * s.params.maxCycles) s = .next t ∧ State.fsmState t = .failed ∧
      State.status t = .unreachable ∧ State.pendingRequest t = false ∧ State.inbox t = rest

/-- R195: an acknowledgement wait that reads no acknowledgement, and a measurement wait that reads no measurement, end in
IDLE with Timeout after exactly MAX_READS reads, and no sooner, for every legal value of it (R6, 93 U17). The end of the
acknowledgement wait clears `pending_request` (decision D11), and the end of the measurement wait leaves it. The bound of
the measurement wait is decision D19. -/
def Obligations.WaitsTimeOutAfterMaxReads : Prop :=
  ∀ (s : State) (chunks : List (List Byte)) (rest : List Event), s.params.legal = true → s.readCount = 0 →
    chunks.length = s.params.maxReads → s.inbox = readEvents chunks ++ rest →
    (s.fsmState = .awaitAck ∧ ∀ c ∈ chunks, noAck c = true) ∨
      (s.fsmState = .awaitMeas ∧ ∀ c ∈ chunks, noMeasurement c = true) →
    (∀ k, k < s.params.maxReads → ∃ t, Host.Core.run core k s = .next t ∧ State.fsmState t = s.fsmState ∧
      State.readCount t = k) ∧
    ∃ t, Host.Core.run core s.params.maxReads s = .next t ∧ State.fsmState t = .idle ∧ State.status t = .timeout ∧
      State.readCount t = 0 ∧ State.inbox t = rest ∧
      (s.fsmState = .awaitAck → State.pendingRequest t = false) ∧
      (s.fsmState = .awaitMeas → State.pendingRequest t = s.pendingRequest)

/-! ### The invariant -/

/-- R34, R24, R40: every step keeps R34's table of the flag and the counters, the canonical form of the transmit space
and its bounds, and the legal range of the retry bounds (R6). The spec marks R34 as derived, the canonical form of the
space is the model's (log entry 7), and so is that the state carries the retry bounds (log entry 12). -/
def Obligations.EveryStepKeepsTheInvariant : Prop :=
  ∀ s t : State, Invariant s = true → step s = .next t → Invariant t = true

/-- R34, R240: the reset state meets the invariant. The values are decision D21. -/
def Obligations.ResetMeetsTheInvariant : Prop := Invariant State.reset = true

/-! ### Decoding and stepping -/

/-- R71, R74: decoding the encoding of any instruction gives the instruction, with every operand at every value. The
layout of a host operation's operands is the model's choice (log entry 4). -/
def Obligations.DecodeOfEncodeIsTheInstruction : Prop :=
  ∀ i : Instr, decode (encode i) = .ok i

/-- R71, R72, R74: an event that decodes is, format and bytes, the encoding of what it decodes to. The layout of a host
operation's operands is the model's choice (log entry 4). -/
def Obligations.EncodeOfDecodeIsTheEvent : Prop :=
  ∀ (e : Event) (i : Instr), decode e = .ok i → (encode i).format = e.format ∧ (encode i).bytes = e.bytes

/-- R71: the OP byte of each host operation. The codes are the spec's own (decision D2). -/
def Obligations.HostOperationCodes : Prop :=
  ∀ (f : Frame19) (g : Frame10) (v : Byte) (p : Payload) (b : List Byte) (r : ReadOutcome) (w : WriteOutcome)
    (m : BitVec 1) (id : Half),
    [Instr.cksum19 f, .cksum10 g, .assemble v p, .decode10 b, .parse19 b, .boot w, .read r w, .awaitAck, .readMeas,
      .getReportMode w, .setReportMode m w, .queryData w, .setDeviceId id w, .getSleep w, .setSleep m w, .getFirmware w,
      .getPeriod w, .setPeriod v w, .reset].map (fun i => (encode i).bytes.head?) =
    [some 0x01, some 0x02, some 0x03, some 0x04, some 0x05, some 0x10, some 0x11, some 0x12, some 0x13, some 0x20,
      some 0x21, some 0x22, some 0x23, some 0x24, some 0x25, some 0x26, some 0x27, some 0x28, some 0x3F]

/-- R68, R69, R71: a few events written out byte by byte from the spec's encodings decode to the instructions they stand
for. The codes, the positions and the order of a new ID are the spec's own (decisions D2, D3, D6, D7), and the operands'
layout is the model's (log entry 4). -/
def Obligations.SampleEventsDecode : Prop :=
  decode { format := .hostOp, bytes := [0x23, 0xA2, 0x62], w := .ok 19 } = .ok (.setDeviceId 0x62A2 (.ok 19)) ∧
  decode { format := .hostOp, bytes := [0x10], w := .err } = .ok (.boot .err) ∧
  decode ⟨.cmd19, [0xAA, 0xB4, 0x08, 0x01, 0x05, 0, 0, 0, 0, 0, 0, 0, 0, 0, 0, 0xA1, 0x60, 0x0F, 0xAB], .ok 19⟩ =
    .ok (.txPeriodSet 5 0x60A1 0x0F) ∧
  decode ⟨.rsp10, [0xAA, 0xC5, 0x07, 0x0F, 0x07, 0x0A, 0xA1, 0x60, 0x28, 0xAB], .ok 19⟩ =
    .ok (.rxAckFirmware 15 7 10 0x60A1 0x28)

/-- R101, R102, R110, R71: CKSUM19, CKSUM10 and ASSEMBLE are the OP codes 0x01, 0x02 and 0x03, with every operand. The
codes are the spec's own (decision D2), and the operands' layout is the model's choice (log entry 4). -/
def Obligations.ChecksumAndAssembleEventsDecode : Prop :=
  (∀ (f : Frame19) (w : WriteOutcome), decode { format := .hostOp, bytes := 0x01 :: f.toList, w := w } =
    .ok (.cksum19 f)) ∧
  (∀ (f : Frame10) (w : WriteOutcome), decode { format := .hostOp, bytes := 0x02 :: f.toList, w := w } =
    .ok (.cksum10 f)) ∧
  ∀ (cmd : Byte) (payload : Payload) (w : WriteOutcome),
    decode { format := .hostOp, bytes := 0x03 :: cmd :: payload.toList, w := w } = .ok (.assemble cmd payload)

/-- R49, R170: when the next host event decodes to an instruction, the step takes that event and runs that instruction;
the instruction leaves the later events and the retry bounds in place. That the events and the bounds are held in the
state is the model's choice (log entries 3 and 12). -/
def Obligations.StepRunsTheDecodedInstruction : Prop :=
  (∀ (s : State) (e : Event) (rest : List Event) (i : Instr), s.inbox = e :: rest → decode e = .ok i →
    step s = exec i { s with inbox := rest }) ∧
  ∀ (i : Instr) (s t : State), exec i s = .next t → t.inbox = s.inbox ∧ t.params = s.params

/-- R72, R218: a host event whose OP is none of the 19 codes of R71 ends in IllegalOp in every state, whatever follows
the OP, and changes only `status` and `result`. The codes and the check are the spec's own (decision D2). -/
def Obligations.ReservedOpIsIllegalInEveryState : Prop :=
  ∀ (s : State) (op : Byte) (operands : List Byte) (w : WriteOutcome) (rest : List Event),
    op ∉ [(0x01 : Byte), 0x02, 0x03, 0x04, 0x05, 0x10, 0x11, 0x12, 0x13, 0x20, 0x21, 0x22, 0x23, 0x24, 0x25, 0x26, 0x27,
      0x28, 0x3F] →
    s.inbox = { format := .hostOp, bytes := op :: operands, w := w } :: rest →
    step s = .next { s with
      inbox := rest, status := .illegalOp, result := none, txOut := none, decodeOut := none }

/-- R70: a response-frame event of no listed type, run in a non-busy state, ends in the decoder's frame error and changes
only `status` and `result`. That a response frame is an event of its own is the model's choice (log entry 5). -/
def Obligations.UnlistedResponseFrameIsAFrameError : Prop :=
  ∀ (s : State) (b : List Byte) (w : WriteOutcome) (rest : List Event),
    (∀ i, decode { format := .rsp10, bytes := b, w := w } ≠ .ok i) → busy s.fsmState = false →
    s.inbox = { format := .rsp10, bytes := b, w := w } :: rest →
    ∃ e, Machine.decode10 b = .err e ∧ step s = .next { s with
      inbox := rest, status := e.toStatus, result := none, txOut := none, decodeOut := none }

/-- R72, R195: where a step stops: only without a host event, or on an event that decodes to no instruction, such as a
mode that is not 1 bit (93 U9). The stops and the byte layout of the operands are the model's choice (log entries 3 and
4). -/
def Obligations.WhereAStepStops : Prop :=
  (∀ s : State, s.inbox = [] → step s = .fault .noHostEvent) ∧
  (∀ (s : State) (r : Fault), step s = .fault r → s.inbox = []) ∧
  (∀ (s : State) (r : Refusal), step s = .refused r →
    ∃ e rest err, s.inbox = e :: rest ∧ decode e = .error err) ∧
  ∀ (s : State) (op v : Byte) (w : WriteOutcome) (rest : List Event), op = 0x21 ∨ op = 0x25 → 2 ≤ v.toNat →
    s.inbox = { format := .hostOp, bytes := [op, v], w := w } :: rest → step s = .refused (.operandNotFormed op)

/-! ### Codes -/

/-- R210, R25: the numeric status codes and the encodings of `fsm_state`, no two alike (the numbers are the spec's own
decisions D27 and D13). -/
def Obligations.CodesAreTheSpecs : Prop :=
  [Status.ok, .busy, .badLength, .badFraming, .checksumMismatch, .unknownCommand, .timeout, .outOfRange, .unreachable,
    .ioError, .requestPending, .wrongState, .illegalOp].map Status.code =
    [0x00, 0x01, 0x02, 0x03, 0x04, 0x05, 0x06, 0x07, 0x08, 0x09, 0x0A, 0x0B, 0x0C] ∧
  [FsmState.unconnected, .boot, .idle, .awaitAck, .awaitMeas, .failed].map FsmState.code = [0, 1, 2, 3, 4, 5] ∧
  (∀ a b : Status, Status.code a = Status.code b → a = b) ∧
  ∀ a b : FsmState, FsmState.code a = FsmState.code b → a = b
end

