-- ==== Sys2Proof/Laws/FrameRows.lean ====
section
/-! SUPPORT. What a frame row's mask and match ask of a frame's bytes, one lemma per row (spec 30_encoding.md R74): the
equations on the bytes the mask covers, and nothing on the others. -/

namespace Sys2Proof

theorem and_ones (b : Byte) : b &&& 0xFF = b := by
  revert b; decide

theorem and_zeros (b : Byte) : b &&& 0x00 = 0x00 := by
  revert b; decide

theorem ofType_txReportModeGet (b0 b1 b2 b3 b4 b5 b6 b7 b8 b9 b10 b11 b12 b13 b14 b15 b16 b17 b18 : Byte) :
    ofType .txReportModeGet [b0, b1, b2, b3, b4, b5, b6, b7, b8, b9, b10, b11, b12, b13, b14, b15, b16, b17, b18] =
      (b0 == 0xAA && (b1 == 0xB4 && (b2 == 0x02 && (b3 == 0x00 && (b4 == 0x00 && (b5 == 0x00 && (b6 == 0x00 &&
      (b7 == 0x00 && (b8 == 0x00 && (b9 == 0x00 && (b10 == 0x00 && (b11 == 0x00 && (b12 == 0x00 && (b13 == 0x00 &&
      (b14 == 0x00 && (b18 == 0xAB && true)))))))))))))))) := by
  simp only [ofType, frameRow, matchesMask, and_ones, and_zeros, beq_self_eq_true, Bool.true_and]

theorem ofType_txReportModeSet (b0 b1 b2 b3 b4 b5 b6 b7 b8 b9 b10 b11 b12 b13 b14 b15 b16 b17 b18 : Byte) :
    ofType .txReportModeSet [b0, b1, b2, b3, b4, b5, b6, b7, b8, b9, b10, b11, b12, b13, b14, b15, b16, b17, b18] =
      (b0 == 0xAA && (b1 == 0xB4 && (b2 == 0x02 && (b3 == 0x01 && (b5 == 0x00 && (b6 == 0x00 && (b7 == 0x00 &&
      (b8 == 0x00 && (b9 == 0x00 && (b10 == 0x00 && (b11 == 0x00 && (b12 == 0x00 && (b13 == 0x00 && (b14 == 0x00 &&
      (b18 == 0xAB && true))))))))))))))) := by
  simp only [ofType, frameRow, matchesMask, and_ones, and_zeros, beq_self_eq_true, Bool.true_and]

theorem ofType_txQueryData (b0 b1 b2 b3 b4 b5 b6 b7 b8 b9 b10 b11 b12 b13 b14 b15 b16 b17 b18 : Byte) :
    ofType .txQueryData [b0, b1, b2, b3, b4, b5, b6, b7, b8, b9, b10, b11, b12, b13, b14, b15, b16, b17, b18] =
      (b0 == 0xAA && (b1 == 0xB4 && (b2 == 0x04 && (b3 == 0x00 && (b4 == 0x00 && (b5 == 0x00 && (b6 == 0x00 &&
      (b7 == 0x00 && (b8 == 0x00 && (b9 == 0x00 && (b10 == 0x00 && (b11 == 0x00 && (b12 == 0x00 && (b13 == 0x00 &&
      (b14 == 0x00 && (b18 == 0xAB && true)))))))))))))))) := by
  simp only [ofType, frameRow, matchesMask, and_ones, and_zeros, beq_self_eq_true, Bool.true_and]

theorem ofType_txSetDeviceId (b0 b1 b2 b3 b4 b5 b6 b7 b8 b9 b10 b11 b12 b13 b14 b15 b16 b17 b18 : Byte) :
    ofType .txSetDeviceId [b0, b1, b2, b3, b4, b5, b6, b7, b8, b9, b10, b11, b12, b13, b14, b15, b16, b17, b18] =
      (b0 == 0xAA && (b1 == 0xB4 && (b2 == 0x05 && (b3 == 0x00 && (b4 == 0x00 && (b5 == 0x00 && (b6 == 0x00 &&
      (b7 == 0x00 && (b8 == 0x00 && (b9 == 0x00 && (b10 == 0x00 && (b11 == 0x00 && (b12 == 0x00 && (b18 == 0xAB &&
      true)))))))))))))) := by
  simp only [ofType, frameRow, matchesMask, and_ones, and_zeros, beq_self_eq_true, Bool.true_and]

theorem ofType_txSleepGet (b0 b1 b2 b3 b4 b5 b6 b7 b8 b9 b10 b11 b12 b13 b14 b15 b16 b17 b18 : Byte) :
    ofType .txSleepGet [b0, b1, b2, b3, b4, b5, b6, b7, b8, b9, b10, b11, b12, b13, b14, b15, b16, b17, b18] =
      (b0 == 0xAA && (b1 == 0xB4 && (b2 == 0x06 && (b3 == 0x00 && (b4 == 0x00 && (b5 == 0x00 && (b6 == 0x00 &&
      (b7 == 0x00 && (b8 == 0x00 && (b9 == 0x00 && (b10 == 0x00 && (b11 == 0x00 && (b12 == 0x00 && (b13 == 0x00 &&
      (b14 == 0x00 && (b18 == 0xAB && true)))))))))))))))) := by
  simp only [ofType, frameRow, matchesMask, and_ones, and_zeros, beq_self_eq_true, Bool.true_and]

theorem ofType_txSleepSet (b0 b1 b2 b3 b4 b5 b6 b7 b8 b9 b10 b11 b12 b13 b14 b15 b16 b17 b18 : Byte) :
    ofType .txSleepSet [b0, b1, b2, b3, b4, b5, b6, b7, b8, b9, b10, b11, b12, b13, b14, b15, b16, b17, b18] =
      (b0 == 0xAA && (b1 == 0xB4 && (b2 == 0x06 && (b3 == 0x01 && (b5 == 0x00 && (b6 == 0x00 && (b7 == 0x00 &&
      (b8 == 0x00 && (b9 == 0x00 && (b10 == 0x00 && (b11 == 0x00 && (b12 == 0x00 && (b13 == 0x00 && (b14 == 0x00 &&
      (b18 == 0xAB && true))))))))))))))) := by
  simp only [ofType, frameRow, matchesMask, and_ones, and_zeros, beq_self_eq_true, Bool.true_and]

theorem ofType_txFirmware (b0 b1 b2 b3 b4 b5 b6 b7 b8 b9 b10 b11 b12 b13 b14 b15 b16 b17 b18 : Byte) :
    ofType .txFirmware [b0, b1, b2, b3, b4, b5, b6, b7, b8, b9, b10, b11, b12, b13, b14, b15, b16, b17, b18] =
      (b0 == 0xAA && (b1 == 0xB4 && (b2 == 0x07 && (b3 == 0x00 && (b4 == 0x00 && (b5 == 0x00 && (b6 == 0x00 &&
      (b7 == 0x00 && (b8 == 0x00 && (b9 == 0x00 && (b10 == 0x00 && (b11 == 0x00 && (b12 == 0x00 && (b13 == 0x00 &&
      (b14 == 0x00 && (b18 == 0xAB && true)))))))))))))))) := by
  simp only [ofType, frameRow, matchesMask, and_ones, and_zeros, beq_self_eq_true, Bool.true_and]

theorem ofType_txPeriodGet (b0 b1 b2 b3 b4 b5 b6 b7 b8 b9 b10 b11 b12 b13 b14 b15 b16 b17 b18 : Byte) :
    ofType .txPeriodGet [b0, b1, b2, b3, b4, b5, b6, b7, b8, b9, b10, b11, b12, b13, b14, b15, b16, b17, b18] =
      (b0 == 0xAA && (b1 == 0xB4 && (b2 == 0x08 && (b3 == 0x00 && (b4 == 0x00 && (b5 == 0x00 && (b6 == 0x00 &&
      (b7 == 0x00 && (b8 == 0x00 && (b9 == 0x00 && (b10 == 0x00 && (b11 == 0x00 && (b12 == 0x00 && (b13 == 0x00 &&
      (b14 == 0x00 && (b18 == 0xAB && true)))))))))))))))) := by
  simp only [ofType, frameRow, matchesMask, and_ones, and_zeros, beq_self_eq_true, Bool.true_and]

theorem ofType_txPeriodSet (b0 b1 b2 b3 b4 b5 b6 b7 b8 b9 b10 b11 b12 b13 b14 b15 b16 b17 b18 : Byte) :
    ofType .txPeriodSet [b0, b1, b2, b3, b4, b5, b6, b7, b8, b9, b10, b11, b12, b13, b14, b15, b16, b17, b18] =
      (b0 == 0xAA && (b1 == 0xB4 && (b2 == 0x08 && (b3 == 0x01 && (b5 == 0x00 && (b6 == 0x00 && (b7 == 0x00 &&
      (b8 == 0x00 && (b9 == 0x00 && (b10 == 0x00 && (b11 == 0x00 && (b12 == 0x00 && (b13 == 0x00 && (b14 == 0x00 &&
      (b18 == 0xAB && true))))))))))))))) := by
  simp only [ofType, frameRow, matchesMask, and_ones, and_zeros, beq_self_eq_true, Bool.true_and]

theorem ofType_rxMeasurement (b0 b1 b2 b3 b4 b5 b6 b7 b8 b9 : Byte) :
    ofType .rxMeasurement [b0, b1, b2, b3, b4, b5, b6, b7, b8, b9] =
      (b0 == 0xAA && (b1 == 0xC0 && (b9 == 0xAB && true))) := by
  simp only [ofType, frameRow, matchesMask, and_ones, and_zeros, beq_self_eq_true, Bool.true_and]

theorem ofType_rxAckReportMode (b0 b1 b2 b3 b4 b5 b6 b7 b8 b9 : Byte) :
    ofType .rxAckReportMode [b0, b1, b2, b3, b4, b5, b6, b7, b8, b9] =
      (b0 == 0xAA && (b1 == 0xC5 && (b2 == 0x02 && (b9 == 0xAB && true)))) := by
  simp only [ofType, frameRow, matchesMask, and_ones, and_zeros, beq_self_eq_true, Bool.true_and]

theorem ofType_rxAckSleep (b0 b1 b2 b3 b4 b5 b6 b7 b8 b9 : Byte) :
    ofType .rxAckSleep [b0, b1, b2, b3, b4, b5, b6, b7, b8, b9] =
      (b0 == 0xAA && (b1 == 0xC5 && (b2 == 0x06 && (b9 == 0xAB && true)))) := by
  simp only [ofType, frameRow, matchesMask, and_ones, and_zeros, beq_self_eq_true, Bool.true_and]

theorem ofType_rxAckPeriod (b0 b1 b2 b3 b4 b5 b6 b7 b8 b9 : Byte) :
    ofType .rxAckPeriod [b0, b1, b2, b3, b4, b5, b6, b7, b8, b9] =
      (b0 == 0xAA && (b1 == 0xC5 && (b2 == 0x08 && (b9 == 0xAB && true)))) := by
  simp only [ofType, frameRow, matchesMask, and_ones, and_zeros, beq_self_eq_true, Bool.true_and]

theorem ofType_rxAckFirmware (b0 b1 b2 b3 b4 b5 b6 b7 b8 b9 : Byte) :
    ofType .rxAckFirmware [b0, b1, b2, b3, b4, b5, b6, b7, b8, b9] =
      (b0 == 0xAA && (b1 == 0xC5 && (b2 == 0x07 && (b9 == 0xAB && true)))) := by
  simp only [ofType, frameRow, matchesMask, and_ones, and_zeros, beq_self_eq_true, Bool.true_and]

theorem ofType_rxAckDeviceId (b0 b1 b2 b3 b4 b5 b6 b7 b8 b9 : Byte) :
    ofType .rxAckDeviceId [b0, b1, b2, b3, b4, b5, b6, b7, b8, b9] =
      (b0 == 0xAA && (b1 == 0xC5 && (b2 == 0x05 && (b9 == 0xAB && true)))) := by
  simp only [ofType, frameRow, matchesMask, and_ones, and_zeros, beq_self_eq_true, Bool.true_and]

end Sys2Proof
end

