-- ==== Sys2Proof/Laws/Operands.lean ====
section
/-! SUPPORT. The laws of the operand forms: 16-bit fields and their bytes, mode bytes, fixed-size operands, and the bytes
of an assembled frame. -/

namespace Sys2Proof.Machine

/-- A device ID taken apart low byte first is put together again (R42, R43). -/
@[simp] theorem deviceIdOf_low_high (v : Half) : deviceIdOf (lowByte v) (highByte v) = v := by
  apply BitVec.eq_of_toNat_eq
  simp only [deviceIdOf, ofHighLow, lowByte, highByte, BitVec.toNat_ofNat]
  have := v.isLt
  omega

@[simp] theorem lowByte_deviceIdOf (lo hi : Byte) : lowByte (deviceIdOf lo hi) = lo := by
  apply BitVec.eq_of_toNat_eq
  simp only [deviceIdOf, ofHighLow, lowByte, BitVec.toNat_ofNat]
  have := lo.isLt
  omega

@[simp] theorem highByte_deviceIdOf (lo hi : Byte) : highByte (deviceIdOf lo hi) = hi := by
  apply BitVec.eq_of_toNat_eq
  simp only [deviceIdOf, ofHighLow, highByte, BitVec.toNat_ofNat]
  have := lo.isLt
  have := hi.isLt
  omega

@[simp] theorem byteAt_cons_zero (v : Byte) (b : List Byte) : byteAt (v :: b) 0 = v := rfl

@[simp] theorem byteAt_cons_succ (v : Byte) (b : List Byte) (i : Nat) : byteAt (v :: b) (i + 1) = byteAt b i := by
  simp [byteAt]

/-- A fixed-size byte operand with its bytes named, for payloads. -/
theorem payload_cases (p : Payload) : ∃ a b c d e f g h i j k l : Byte, p = #v[a, b, c, d, e, f, g, h, i, j, k, l] := by
  obtain ⟨⟨xs⟩, hx⟩ := p
  match xs, hx with
  | [a, b, c, d, e, f, g, h, i, j, k, l], _ => exact ⟨a, b, c, d, e, f, g, h, i, j, k, l, rfl⟩

/-- The bytes of an assembled frame: the layout of R61 with the stamp of `id` and the checksum over bytes 2 to 16. -/
theorem commandFrame_toList (cmd : Byte) (payload : Payload) (id : Half) :
    (commandFrame cmd payload id).toList = cmdBytes cmd payload id (sum8 (frameBody cmd payload id) 2 16) := by
  simp [commandFrame, frameBody, cmdBytes]

/-- The bytes 0 to 16 of an assembled frame, which the checksum is taken over, as bytes of the whole frame. -/
theorem sum8_commandFrame (cmd : Byte) (payload : Payload) (id : Half) :
    sum8 (commandFrame cmd payload id).toList 2 16 = sum8 (frameBody cmd payload id) 2 16 := by
  obtain ⟨a, b, c, d, e, f, g, h, i, j, k, l, rfl⟩ := payload_cases payload
  rfl

end Sys2Proof.Machine

namespace Sys2Proof

@[simp] theorem modeOf_modeByte (m : BitVec 1) : modeOf (Machine.modeByte m) = some m := by
  revert m; decide

@[simp] theorem asVector_toList {n : Nat} (v : Vector Byte n) : asVector n v.toList = some v := by
  obtain ⟨⟨xs⟩, hx⟩ := v
  subst hx
  simp [asVector, Vector.toList]

end Sys2Proof
end

