-- ==== Sys2Proof/Laws/Decode.lean ====
section
/-! SUPPORT. What the decoder gives: one lemma per OP code of spec 30_encoding.md R71, one per response frame type of R69, and
what the decoder does with an event of each format. -/

namespace Sys2Proof

theorem hostOp_cksum19 (rest : List Byte) (w : WriteOutcome) :
    hostOp 0x01 rest w = some ((asVector 19 rest).map (fun f => .cksum19 f)) := rfl

theorem hostOp_cksum10 (rest : List Byte) (w : WriteOutcome) :
    hostOp 0x02 rest w = some ((asVector 10 rest).map (fun f => .cksum10 f)) := rfl

theorem hostOp_assemble (rest : List Byte) (w : WriteOutcome) :
    hostOp 0x03 rest w = some (assembleOperands rest) := rfl

theorem hostOp_decode10 (rest : List Byte) (w : WriteOutcome) :
    hostOp 0x04 rest w = some (some (.decode10 rest)) := rfl

theorem hostOp_parse19 (rest : List Byte) (w : WriteOutcome) :
    hostOp 0x05 rest w = some (some (.parse19 rest)) := rfl

theorem hostOp_boot (rest : List Byte) (w : WriteOutcome) :
    hostOp 0x10 rest w = some (noOperand (.boot w) rest) := rfl

theorem hostOp_read (rest : List Byte) (w : WriteOutcome) :
    hostOp 0x11 rest w = some ((readOutcomeOf rest).map (fun r => .read r w)) := rfl

theorem hostOp_awaitAck (rest : List Byte) (w : WriteOutcome) :
    hostOp 0x12 rest w = some (noOperand .awaitAck rest) := rfl

theorem hostOp_readMeas (rest : List Byte) (w : WriteOutcome) :
    hostOp 0x13 rest w = some (noOperand .readMeas rest) := rfl

theorem hostOp_getReportMode (rest : List Byte) (w : WriteOutcome) :
    hostOp 0x20 rest w = some (noOperand (.getReportMode w) rest) := rfl

theorem hostOp_setReportMode (rest : List Byte) (w : WriteOutcome) :
    hostOp 0x21 rest w = some (((oneByte rest).bind modeOf).map (fun m => .setReportMode m w)) := rfl

theorem hostOp_queryData (rest : List Byte) (w : WriteOutcome) :
    hostOp 0x22 rest w = some (noOperand (.queryData w) rest) := rfl

theorem hostOp_setDeviceId (rest : List Byte) (w : WriteOutcome) :
    hostOp 0x23 rest w = some ((twoBytes rest).map (fun id => .setDeviceId id w)) := rfl

theorem hostOp_getSleep (rest : List Byte) (w : WriteOutcome) :
    hostOp 0x24 rest w = some (noOperand (.getSleep w) rest) := rfl

theorem hostOp_setSleep (rest : List Byte) (w : WriteOutcome) :
    hostOp 0x25 rest w = some (((oneByte rest).bind modeOf).map (fun m => .setSleep m w)) := rfl

theorem hostOp_getFirmware (rest : List Byte) (w : WriteOutcome) :
    hostOp 0x26 rest w = some (noOperand (.getFirmware w) rest) := rfl

theorem hostOp_getPeriod (rest : List Byte) (w : WriteOutcome) :
    hostOp 0x27 rest w = some (noOperand (.getPeriod w) rest) := rfl

theorem hostOp_setPeriod (rest : List Byte) (w : WriteOutcome) :
    hostOp 0x28 rest w = some ((oneByte rest).map (fun v => .setPeriod v w)) := rfl

theorem hostOp_reset (rest : List Byte) (w : WriteOutcome) :
    hostOp 0x3F rest w = some (noOperand .reset rest) := rfl

/-- A host operation whose operand bytes spell its operands decodes to it. -/
theorem decode_of_hostOp {op : Byte} {rest : List Byte} {w : WriteOutcome} {i : Instr}
    (h : hostOp op rest w = some (some i)) : decode (hostEventWith (op :: rest) w) = .ok i := by
  simp only [decode, hostEventWith, decodeHostOp, h]

/-- A command frame event decodes to the instruction of the type found for it. -/
theorem decode_of_commandFrame {cmd : Byte} {payload : Payload} {stamp : Half} {ck : Byte} {i : Instr} {t : FrameType}
    (hf : commandFrameTypes.find? (fun t => ofType t (Machine.cmdBytes cmd payload stamp ck)) = some t)
    (hb : buildCommandFrame t (Machine.cmdBytes cmd payload stamp ck) = some i) :
    decode (commandEvent cmd payload stamp ck) = .ok i := by
  simp only [decode, commandEvent, decodeCommandFrame, hf, Option.bind_some, hb]

/-- A response frame event decodes to the instruction of the type found for it. -/
theorem decode_of_responseFrame {tag b2 b3 b4 b5 : Byte} {id : Half} {ck : Byte} {i : Instr} {t : FrameType}
    (hf : responseFrameTypes.find? (fun t => ofType t (Machine.rspBytes tag b2 b3 b4 b5 id ck)) = some t)
    (hb : buildResponseFrame t (Machine.rspBytes tag b2 b3 b4 b5 id ck) = some i) :
    decode (responseEvent tag b2 b3 b4 b5 id ck) = .ok i := by
  simp only [decode, responseEvent, decodeResponseFrame, hf, Option.bind_some, hb]

/-- Which response frame type the bytes of a response frame are found to be (R69). -/
theorem find_responseFrame (tag b2 b3 b4 b5 : Byte) (id : Half) (ck : Byte) :
    responseFrameTypes.find? (fun t => ofType t (Machine.rspBytes tag b2 b3 b4 b5 id ck)) =
      if tag = 0xC0 then some .rxMeasurement
      else if tag = 0xC5 ∧ b2 = 0x02 then some .rxAckReportMode
      else if tag = 0xC5 ∧ b2 = 0x06 then some .rxAckSleep
      else if tag = 0xC5 ∧ b2 = 0x08 then some .rxAckPeriod
      else if tag = 0xC5 ∧ b2 = 0x07 then some .rxAckFirmware
      else if tag = 0xC5 ∧ b2 = 0x05 then some .rxAckDeviceId
      else none := by
  show List.find? (fun t => ofType t [0xAA, tag, b2, b3, b4, b5, Machine.lowByte id, Machine.highByte id, ck, 0xAB])
    responseFrameTypes = _
  simp only [responseFrameTypes, List.find?_cons, List.find?_nil, ofType_rxMeasurement, ofType_rxAckReportMode,
    ofType_rxAckSleep, ofType_rxAckPeriod, ofType_rxAckFirmware, ofType_rxAckDeviceId, beq_self_eq_true, Bool.true_and,
    Bool.and_true]
  repeat' split
  all_goals simp_all

end Sys2Proof
end

