-- ==== Sys2Proof/Laws/Memory.lean ====
section
/-! SUPPORT. The laws of the transmit space: what a read gives after a write, and that every write keeps the canonical
form and stays inside `tx_buf[0..18]`. -/

namespace Sys2Proof.Machine

@[simp] theorem Memory.read_nil (a : Nat) : Memory.read [] a = Memory.unlisted := rfl

/-- An index below or equal to every listed one that is not listed reads as the unlisted byte. -/
theorem Memory.read_eq_unlisted_of_lt {m : Memory} {a : Nat} (h : ∀ c ∈ m, a < c.1) :
    Memory.read m a = Memory.unlisted := by
  induction m with
  | nil => rfl
  | cons c m ih =>
    have hc := h c (by simp)
    simp only [Memory.read, Nat.ne_of_lt hc, if_false]
    exact ih fun d hd => h d (by simp [hd])

/-- The canonical form, taken apart: rising indices, and no listed byte is the unlisted one. -/
theorem Memory.wf_iff {m : Memory} :
    Memory.wf m = true ↔ m.Pairwise (fun c d => c.1 < d.1) ∧ ∀ c ∈ m, c.2 ≠ Memory.unlisted := by
  simp [Memory.wf]

theorem Memory.wf_nil : Memory.wf [] = true := rfl

/-- A canonical list with one more entry in front. -/
theorem Memory.wf_cons {c : Host.Cell} {m : Memory} :
    Memory.wf (c :: m) = true ↔ (∀ d ∈ m, c.1 < d.1) ∧ c.2 ≠ Memory.unlisted ∧ Memory.wf m = true := by
  simp only [Memory.wf_iff, List.pairwise_cons, List.mem_cons, forall_eq_or_imp]
  tauto

/-- Every entry after a write was there before or is the one written. -/
theorem Memory.mem_write {m : Memory} {a : Nat} {v : Byte} {c : Host.Cell} (h : c ∈ Memory.write m a v) :
    c ∈ m ∨ c = (a, v) := by
  induction m with
  | nil => simp only [Memory.write] at h; split at h <;> simp_all
  | cons d m ih =>
    obtain ⟨b, x⟩ := d
    simp only [Memory.write] at h
    split_ifs at h <;> simp only [List.mem_cons] at h ⊢ <;> tauto

/-- A write keeps the canonical form. -/
theorem Memory.write_wf {m : Memory} (a : Nat) (v : Byte) (h : Memory.wf m = true) :
    Memory.wf (Memory.write m a v) = true := by
  induction m with
  | nil => by_cases hv : v = Memory.unlisted <;> simp [Memory.write, Memory.wf, hv]
  | cons d m ih =>
    obtain ⟨b, x⟩ := d
    obtain ⟨hlt, hx, hm⟩ := Memory.wf_cons.mp h
    simp only [Memory.write]
    split_ifs with h1 h2 h3 h4
    · exact h
    · exact Memory.wf_cons.mpr ⟨fun c hc => by
        rcases List.mem_cons.mp hc with rfl | hc
        · exact h1
        · exact Nat.lt_trans h1 (hlt c hc), h2, h⟩
    · exact hm
    · exact Memory.wf_cons.mpr ⟨fun c hc => h3 ▸ hlt c hc, h4, hm⟩
    · refine Memory.wf_cons.mpr ⟨fun c hc => ?_, hx, ih hm⟩
      rcases Memory.mem_write hc with hc | rfl
      · exact hlt c hc
      · show b < a
        omega

/-- A write inside `tx_buf` lists no index outside it. -/
theorem Memory.write_inTxBuf {m : Memory} {a : Nat} (v : Byte) (ha : a < 19) (h : Memory.inTxBuf m = true) :
    Memory.inTxBuf (Memory.write m a v) = true := by
  simp only [Memory.inTxBuf, List.all_eq_true, decide_eq_true_eq] at h ⊢
  intro c hc
  rcases Memory.mem_write hc with hc | rfl
  · exact h c hc
  · exact ha

/-- Reading after a write: the byte written, or what was there (in a canonical memory). -/
theorem Memory.read_write {m : Memory} (h : Memory.wf m = true) (a b : Nat) (v : Byte) :
    Memory.read (Memory.write m a v) b = if b = a then v else Memory.read m b := by
  induction m with
  | nil =>
    by_cases hv : v = Memory.unlisted <;> by_cases hb : b = a <;> simp [Memory.write, Memory.read, hv, hb]
  | cons d m ih =>
    obtain ⟨c, x⟩ := d
    obtain ⟨hlt, -, hm⟩ := Memory.wf_cons.mp h
    have below : ∀ k, k < c → Memory.read ((c, x) :: m) k = Memory.unlisted := fun k hk =>
      Memory.read_eq_unlisted_of_lt fun e he => by
        rcases List.mem_cons.mp he with rfl | he
        · exact hk
        · exact Nat.lt_trans hk (hlt e he)
    by_cases h1 : a < c
    · by_cases hv : v = Memory.unlisted <;> by_cases hb : b = a
      · subst hb; simp [Memory.write, h1, hv, below b h1]
      · simp [Memory.write, h1, hv, hb]
      · subst hb; simp [Memory.write, h1, hv, Memory.read]
      · simp [Memory.write, h1, hv, hb, Memory.read]
    · by_cases h3 : a = c
      · subst h3
        by_cases hv : v = Memory.unlisted <;> by_cases hb : b = a
        · subst hb; simp [Memory.write, hv, Memory.read_eq_unlisted_of_lt hlt]
        · simp [Memory.write, hv, hb, Memory.read]
        · subst hb; simp [Memory.write, hv, Memory.read]
        · simp [Memory.write, hv, hb, Memory.read]
      · by_cases hb : b = c
        · subst hb
          have hba : b ≠ a := fun e => h3 e.symm
          simp [Memory.write, h1, h3, Memory.read, hba]
        · simp [Memory.write, h1, h3, Memory.read, hb, ih hm]

/-- Writing bytes keeps the canonical form. -/
theorem Memory.writeBytes_wf (vs : List Byte) {m : Memory} (a : Nat) (h : Memory.wf m = true) :
    Memory.wf (Memory.writeBytes m a vs) = true := by
  induction vs generalizing m a with
  | nil => exact h
  | cons v vs ih => exact ih _ (Memory.write_wf a v h)

/-- Writing bytes inside `tx_buf` lists no index outside it. -/
theorem Memory.writeBytes_inTxBuf (vs : List Byte) {m : Memory} (a : Nat) (ha : a + vs.length ≤ 19)
    (h : Memory.inTxBuf m = true) : Memory.inTxBuf (Memory.writeBytes m a vs) = true := by
  induction vs generalizing m a with
  | nil => exact h
  | cons v vs ih =>
    simp only [List.length_cons] at ha
    exact ih _ (by omega) (Memory.write_inTxBuf v (by omega) h)

/-- Reading after bytes were written from index `a` on: the byte written there, or what was there before. -/
theorem Memory.read_writeBytes (vs : List Byte) {m : Memory} (a b : Nat) (h : Memory.wf m = true) :
    Memory.read (Memory.writeBytes m a vs) b =
      if a ≤ b ∧ b < a + vs.length then vs.getD (b - a) 0 else Memory.read m b := by
  induction vs generalizing m a with
  | nil => simp [Memory.writeBytes]
  | cons v vs ih =>
    simp only [Memory.writeBytes, ih (a + 1) (Memory.write_wf a v h), Memory.read_write h, List.length_cons]
    by_cases hb : b = a
    · subst hb
      simp
    · by_cases hlt : a + 1 ≤ b
      · obtain ⟨k, rfl⟩ : ∃ k, b = a + 1 + k := ⟨b - (a + 1), by omega⟩
        have e1 : a + 1 + k - (a + 1) = k := by omega
        have e2 : a + 1 + k - a = k + 1 := by omega
        simp only [e1, e2, List.getD_cons_succ, hb, if_false]
        by_cases hk : k < vs.length
        · rw [if_pos (by omega), if_pos (by omega)]
        · rw [if_neg (by omega), if_neg (by omega)]
      · rw [if_neg (by omega), if_neg hb, if_neg (by omega)]

/-- Two canonical memories that read alike everywhere are equal, so that equal memories are equal data. -/
theorem Memory.ext_of_read {m n : Memory} (hm : Memory.wf m = true) (hn : Memory.wf n = true)
    (h : ∀ a, Memory.read m a = Memory.read n a) : m = n := by
  induction m generalizing n with
  | nil =>
    cases n with
    | nil => rfl
    | cons d n =>
      obtain ⟨-, hx, -⟩ := Memory.wf_cons.mp hn
      have := h d.1
      simp [Memory.read] at this
      exact absurd this.symm hx
  | cons c m ih =>
    obtain ⟨hlt, hx, hm'⟩ := Memory.wf_cons.mp hm
    cases n with
    | nil =>
      have := h c.1
      simp [Memory.read] at this
      exact absurd this hx
    | cons d n =>
      obtain ⟨hlt', hx', hn'⟩ := Memory.wf_cons.mp hn
      obtain ⟨a, x⟩ := c
      obtain ⟨b, y⟩ := d
      have hab : a = b := by
        by_contra hne
        rcases Nat.lt_or_gt_of_ne hne with hl | hl
        · have := h a
          rw [show Memory.read ((b, y) :: n) a = Memory.unlisted from Memory.read_eq_unlisted_of_lt fun e he => by
            rcases List.mem_cons.mp he with rfl | he
            · exact hl
            · exact Nat.lt_trans hl (hlt' e he)] at this
          simp [Memory.read] at this
          exact hx this
        · have := h b
          rw [show Memory.read ((a, x) :: m) b = Memory.unlisted from Memory.read_eq_unlisted_of_lt fun e he => by
            rcases List.mem_cons.mp he with rfl | he
            · exact hl
            · exact Nat.lt_trans hl (hlt e he)] at this
          simp [Memory.read] at this
          exact hx' this.symm
      subst hab
      have hxy : x = y := by simpa [Memory.read] using h a
      subst hxy
      congr 1
      refine ih hm' hn' fun b => ?_
      by_cases hb : b = a
      · subst hb
        rw [Memory.read_eq_unlisted_of_lt hlt, Memory.read_eq_unlisted_of_lt hlt']
      · simpa [Memory.read, hb] using h b

end Sys2Proof.Machine
end

