-- ==== Sys2Proof/Laws/State.lean ====
section
/-! SUPPORT. What each field of the state is after each update of it: one lemma per field per update, true by rfl, so
that no proof unfolds a record update. -/

namespace Sys2Proof.Machine

section complete

variable (st : Status) (res : Option Value) (tx : Option Frame19) (dec : Option DecodeOutcome) (s : State)

@[simp] theorem complete_pendingRequest : (complete st res tx dec s).pendingRequest = s.pendingRequest := rfl
@[simp] theorem complete_deviceId : (complete st res tx dec s).deviceId = s.deviceId := rfl
@[simp] theorem complete_txBuf : (complete st res tx dec s).txBuf = s.txBuf := rfl
@[simp] theorem complete_fsmState : (complete st res tx dec s).fsmState = s.fsmState := rfl
@[simp] theorem complete_readCount : (complete st res tx dec s).readCount = s.readCount := rfl
@[simp] theorem complete_pollCount : (complete st res tx dec s).pollCount = s.pollCount := rfl
@[simp] theorem complete_cycleCount : (complete st res tx dec s).cycleCount = s.cycleCount := rfl
@[simp] theorem complete_status : (complete st res tx dec s).status = st := rfl
@[simp] theorem complete_result : (complete st res tx dec s).result = res := rfl
@[simp] theorem complete_txOut : (complete st res tx dec s).txOut = tx := rfl
@[simp] theorem complete_decodeOut : (complete st res tx dec s).decodeOut = dec := rfl
@[simp] theorem complete_params : (complete st res tx dec s).params = s.params := rfl
@[simp] theorem complete_inbox : (complete st res tx dec s).inbox = s.inbox := rfl

end complete

section raise

variable (st : Status) (s : State)

@[simp] theorem raise_pendingRequest : (raise st s).pendingRequest = s.pendingRequest := rfl
@[simp] theorem raise_deviceId : (raise st s).deviceId = s.deviceId := rfl
@[simp] theorem raise_txBuf : (raise st s).txBuf = s.txBuf := rfl
@[simp] theorem raise_fsmState : (raise st s).fsmState = s.fsmState := rfl
@[simp] theorem raise_readCount : (raise st s).readCount = s.readCount := rfl
@[simp] theorem raise_pollCount : (raise st s).pollCount = s.pollCount := rfl
@[simp] theorem raise_cycleCount : (raise st s).cycleCount = s.cycleCount := rfl
@[simp] theorem raise_status : (raise st s).status = st := rfl
@[simp] theorem raise_result : (raise st s).result = none := rfl
@[simp] theorem raise_txOut : (raise st s).txOut = none := rfl
@[simp] theorem raise_decodeOut : (raise st s).decodeOut = none := rfl
@[simp] theorem raise_params : (raise st s).params = s.params := rfl
@[simp] theorem raise_inbox : (raise st s).inbox = s.inbox := rfl

end raise

section assemble

variable (cmd : Byte) (payload : Payload) (s : State)

@[simp] theorem assemble_pendingRequest : (assemble cmd payload s).pendingRequest = s.pendingRequest := rfl
@[simp] theorem assemble_deviceId : (assemble cmd payload s).deviceId = s.deviceId := rfl
@[simp] theorem assemble_txBuf : (assemble cmd payload s).txBuf =
  Memory.writeBytes s.txBuf 0 (commandFrame cmd payload s.deviceId).toList := rfl
@[simp] theorem assemble_fsmState : (assemble cmd payload s).fsmState = s.fsmState := rfl
@[simp] theorem assemble_readCount : (assemble cmd payload s).readCount = s.readCount := rfl
@[simp] theorem assemble_pollCount : (assemble cmd payload s).pollCount = s.pollCount := rfl
@[simp] theorem assemble_cycleCount : (assemble cmd payload s).cycleCount = s.cycleCount := rfl
@[simp] theorem assemble_status : (assemble cmd payload s).status = s.status := rfl
@[simp] theorem assemble_result : (assemble cmd payload s).result = s.result := rfl
@[simp] theorem assemble_txOut : (assemble cmd payload s).txOut = s.txOut := rfl
@[simp] theorem assemble_decodeOut : (assemble cmd payload s).decodeOut = s.decodeOut := rfl
@[simp] theorem assemble_params : (assemble cmd payload s).params = s.params := rfl
@[simp] theorem assemble_inbox : (assemble cmd payload s).inbox = s.inbox := rfl

end assemble

section leaveBoot

variable (f : FsmState) (s : State)

@[simp] theorem leaveBoot_pendingRequest : (leaveBoot f s).pendingRequest = false := rfl
@[simp] theorem leaveBoot_deviceId : (leaveBoot f s).deviceId = s.deviceId := rfl
@[simp] theorem leaveBoot_txBuf : (leaveBoot f s).txBuf = s.txBuf := rfl
@[simp] theorem leaveBoot_fsmState : (leaveBoot f s).fsmState = f := rfl
@[simp] theorem leaveBoot_readCount : (leaveBoot f s).readCount = s.readCount := rfl
@[simp] theorem leaveBoot_pollCount : (leaveBoot f s).pollCount = 0 := rfl
@[simp] theorem leaveBoot_cycleCount : (leaveBoot f s).cycleCount = 0 := rfl
@[simp] theorem leaveBoot_status : (leaveBoot f s).status = s.status := rfl
@[simp] theorem leaveBoot_result : (leaveBoot f s).result = s.result := rfl
@[simp] theorem leaveBoot_txOut : (leaveBoot f s).txOut = s.txOut := rfl
@[simp] theorem leaveBoot_decodeOut : (leaveBoot f s).decodeOut = s.decodeOut := rfl
@[simp] theorem leaveBoot_params : (leaveBoot f s).params = s.params := rfl
@[simp] theorem leaveBoot_inbox : (leaveBoot f s).inbox = s.inbox := rfl

end leaveBoot

section takeEvent

variable (rest : List Event) (s : State)

@[simp] theorem takeEvent_pendingRequest : (takeEvent rest s).pendingRequest = s.pendingRequest := rfl
@[simp] theorem takeEvent_deviceId : (takeEvent rest s).deviceId = s.deviceId := rfl
@[simp] theorem takeEvent_txBuf : (takeEvent rest s).txBuf = s.txBuf := rfl
@[simp] theorem takeEvent_fsmState : (takeEvent rest s).fsmState = s.fsmState := rfl
@[simp] theorem takeEvent_readCount : (takeEvent rest s).readCount = s.readCount := rfl
@[simp] theorem takeEvent_pollCount : (takeEvent rest s).pollCount = s.pollCount := rfl
@[simp] theorem takeEvent_cycleCount : (takeEvent rest s).cycleCount = s.cycleCount := rfl
@[simp] theorem takeEvent_status : (takeEvent rest s).status = s.status := rfl
@[simp] theorem takeEvent_result : (takeEvent rest s).result = s.result := rfl
@[simp] theorem takeEvent_txOut : (takeEvent rest s).txOut = s.txOut := rfl
@[simp] theorem takeEvent_decodeOut : (takeEvent rest s).decodeOut = s.decodeOut := rfl
@[simp] theorem takeEvent_params : (takeEvent rest s).params = s.params := rfl
@[simp] theorem takeEvent_inbox : (takeEvent rest s).inbox = rest := rfl

end takeEvent

section placeEvent

variable (e : Event) (s : State)

@[simp] theorem placeEvent_pendingRequest : (placeEvent e s).pendingRequest = s.pendingRequest := rfl
@[simp] theorem placeEvent_deviceId : (placeEvent e s).deviceId = s.deviceId := rfl
@[simp] theorem placeEvent_txBuf : (placeEvent e s).txBuf = s.txBuf := rfl
@[simp] theorem placeEvent_fsmState : (placeEvent e s).fsmState = s.fsmState := rfl
@[simp] theorem placeEvent_readCount : (placeEvent e s).readCount = s.readCount := rfl
@[simp] theorem placeEvent_pollCount : (placeEvent e s).pollCount = s.pollCount := rfl
@[simp] theorem placeEvent_cycleCount : (placeEvent e s).cycleCount = s.cycleCount := rfl
@[simp] theorem placeEvent_status : (placeEvent e s).status = s.status := rfl
@[simp] theorem placeEvent_result : (placeEvent e s).result = s.result := rfl
@[simp] theorem placeEvent_txOut : (placeEvent e s).txOut = s.txOut := rfl
@[simp] theorem placeEvent_decodeOut : (placeEvent e s).decodeOut = s.decodeOut := rfl
@[simp] theorem placeEvent_params : (placeEvent e s).params = s.params := rfl
@[simp] theorem placeEvent_inbox : (placeEvent e s).inbox = e :: s.inbox := rfl

end placeEvent

section send

variable (cmd : Byte) (payload : Payload) (w : WriteOutcome) (s : State)

@[simp] theorem send_pendingRequest : ((send cmd payload w s).state).pendingRequest =
  pendingAfterSend cmd s.pendingRequest := rfl
@[simp] theorem send_deviceId : ((send cmd payload w s).state).deviceId = s.deviceId := rfl
@[simp] theorem send_txBuf : ((send cmd payload w s).state).txBuf =
  Memory.writeBytes s.txBuf 0 (commandFrame cmd payload s.deviceId).toList := rfl
@[simp] theorem send_fsmState : ((send cmd payload w s).state).fsmState = s.fsmState := rfl
@[simp] theorem send_readCount : ((send cmd payload w s).state).readCount = s.readCount := rfl
@[simp] theorem send_pollCount : ((send cmd payload w s).state).pollCount = s.pollCount := rfl
@[simp] theorem send_cycleCount : ((send cmd payload w s).state).cycleCount = s.cycleCount := rfl
@[simp] theorem send_status : ((send cmd payload w s).state).status = s.status := rfl
@[simp] theorem send_result : ((send cmd payload w s).state).result = s.result := rfl
@[simp] theorem send_txOut : ((send cmd payload w s).state).txOut = s.txOut := rfl
@[simp] theorem send_decodeOut : ((send cmd payload w s).state).decodeOut = s.decodeOut := rfl
@[simp] theorem send_params : ((send cmd payload w s).state).params = s.params := rfl
@[simp] theorem send_inbox : ((send cmd payload w s).state).inbox = s.inbox := rfl

end send

section cacheId

variable (r : DecodeOutcome) (s : State)

@[simp] theorem cacheId_pendingRequest : (cacheId r s).pendingRequest = s.pendingRequest := by cases r <;> rfl
@[simp] theorem cacheId_txBuf : (cacheId r s).txBuf = s.txBuf := by cases r <;> rfl
@[simp] theorem cacheId_fsmState : (cacheId r s).fsmState = s.fsmState := by cases r <;> rfl
@[simp] theorem cacheId_readCount : (cacheId r s).readCount = s.readCount := by cases r <;> rfl
@[simp] theorem cacheId_pollCount : (cacheId r s).pollCount = s.pollCount := by cases r <;> rfl
@[simp] theorem cacheId_cycleCount : (cacheId r s).cycleCount = s.cycleCount := by cases r <;> rfl
@[simp] theorem cacheId_status : (cacheId r s).status = s.status := by cases r <;> rfl
@[simp] theorem cacheId_result : (cacheId r s).result = s.result := by cases r <;> rfl
@[simp] theorem cacheId_txOut : (cacheId r s).txOut = s.txOut := by cases r <;> rfl
@[simp] theorem cacheId_decodeOut : (cacheId r s).decodeOut = s.decodeOut := by cases r <;> rfl
@[simp] theorem cacheId_params : (cacheId r s).params = s.params := by cases r <;> rfl
@[simp] theorem cacheId_inbox : (cacheId r s).inbox = s.inbox := by cases r <;> rfl

/-- A successful decode caches the device ID it carries (R142). -/
@[simp] theorem cacheId_ok_deviceId (p : ParsedResponse) : (cacheId (.ok p) s).deviceId = responseId p := rfl

/-- A failed decode leaves the state as it is (R142, R149). -/
@[simp] theorem cacheId_err (e : FrameError) : cacheId (.err e) s = s := rfl

end cacheId

section resetOp

variable (s : State)

@[simp] theorem resetOp_pendingRequest : (resetOp s).pendingRequest = false := rfl
@[simp] theorem resetOp_deviceId : (resetOp s).deviceId = Config.deviceIdUnknown := rfl
@[simp] theorem resetOp_txBuf : (resetOp s).txBuf = clearTxBuf s.txBuf := by simp only [resetOp]
@[simp] theorem resetOp_fsmState : (resetOp s).fsmState = .unconnected := rfl
@[simp] theorem resetOp_readCount : (resetOp s).readCount = 0 := rfl
@[simp] theorem resetOp_pollCount : (resetOp s).pollCount = 0 := rfl
@[simp] theorem resetOp_cycleCount : (resetOp s).cycleCount = 0 := rfl
@[simp] theorem resetOp_status : (resetOp s).status = .ok := rfl
@[simp] theorem resetOp_result : (resetOp s).result = none := rfl
@[simp] theorem resetOp_txOut : (resetOp s).txOut = none := rfl
@[simp] theorem resetOp_decodeOut : (resetOp s).decodeOut = none := rfl
@[simp] theorem resetOp_params : (resetOp s).params = s.params := rfl
@[simp] theorem resetOp_inbox : (resetOp s).inbox = s.inbox := rfl

end resetOp

/-- The legal range of the retry bounds, taken apart (R6). -/
theorem legal_iff (p : Params) : p.legal = true ↔ 1 ≤ p.maxReads ∧ 1 ≤ p.pollsPerCycle ∧ 1 ≤ p.maxCycles := by
  simp [Params.legal, and_assoc]

/-- The values this hardware takes are legal (R6). -/
theorem legal_defaults : Config.defaults.legal = true := rfl

@[simp] theorem send_frame (cmd : Byte) (payload : Payload) (w : WriteOutcome) (s : State) :
    (send cmd payload w s).frame = commandFrame cmd payload s.deviceId := rfl

@[simp] theorem send_success (cmd : Byte) (payload : Payload) (w : WriteOutcome) (s : State) :
    (send cmd payload w s).success = writeOk w := rfl

end Sys2Proof.Machine
end

