-- ==== Sys2Proof/Laws/Ops.lean ====
section
/-! SUPPORT. What each shared operation can do, said once: gating, assembly, sending, the decoders, the command template,
the waits and the bootstrap. Later proofs cite these instead of unfolding the operations. -/

namespace Sys2Proof.Machine

/-! ### Gating -/

theorem gate_of_accepts {c : EventClass} {run : State → State} {s : State} (h : accepts c s.fsmState = true) :
    gate c run s = run s := by
  simp [gate, h]

theorem gate_of_not_accepts {c : EventClass} {run : State → State} {s : State} (h : accepts c s.fsmState = false) :
    gate c run s = raise .wrongState s := by
  simp [gate, h]

/-- A gated operation runs in a state that accepts it, and raises WrongState in any other (R172). -/
theorem gate_cases (c : EventClass) (run : State → State) (s : State) :
    (accepts c s.fsmState = true ∧ gate c run s = run s) ∨
      (accepts c s.fsmState = false ∧ gate c run s = raise .wrongState s) := by
  cases h : accepts c s.fsmState
  · exact .inr ⟨rfl, gate_of_not_accepts h⟩
  · exact .inl ⟨rfl, gate_of_accepts h⟩

theorem accepts_pureOp (f : FsmState) :
    accepts .pureOp f = true ↔ f = .unconnected ∨ f = .idle ∨ f = .failed := by
  cases f <;> decide

theorem accepts_bootOp (f : FsmState) : accepts .bootOp f = true ↔ f = .unconnected := by
  cases f <;> decide

theorem accepts_idleOp (f : FsmState) : accepts .idleOp f = true ↔ f = .idle := by
  cases f <;> decide

/-! ### Assembly and sending -/

/-- Only `Ok(19)` is a successful write (R171). -/
theorem writeOk_iff (w : WriteOutcome) : writeOk w = true ↔ w = .ok 19 := by
  cases w <;> simp [writeOk]

theorem commandFrame_length (cmd : Byte) (payload : Payload) (id : Half) :
    (commandFrame cmd payload id).toList.length = 19 := by
  simp

/-- Assembly leaves the frame in `tx_buf`, and every other index as it was. -/
theorem assemble_writtenWith (cmd : Byte) (payload : Payload) (s : State) (h : Memory.wf s.txBuf = true) :
    WrittenWith s.txBuf (assemble cmd payload s).txBuf (commandFrame cmd payload s.deviceId) := by
  refine ⟨fun a ha => ?_, fun a ha => ?_⟩
  · rw [assemble_txBuf, Memory.read_writeBytes _ _ _ h, commandFrame_length, if_pos (by omega), Nat.sub_zero]
  · rw [assemble_txBuf, Memory.read_writeBytes _ _ _ h, commandFrame_length, if_neg (by omega)]

/-- Assembly keeps the canonical form of the transmit space. -/
theorem assemble_wf (cmd : Byte) (payload : Payload) (s : State) (h : Memory.wf s.txBuf = true) :
    Memory.wf (assemble cmd payload s).txBuf = true :=
  Memory.writeBytes_wf _ _ h

/-- Assembly lists no index outside `tx_buf`. -/
theorem assemble_inTxBuf (cmd : Byte) (payload : Payload) (s : State) (h : Memory.inTxBuf s.txBuf = true) :
    Memory.inTxBuf (assemble cmd payload s).txBuf = true :=
  Memory.writeBytes_inTxBuf _ _ (by rw [commandFrame_length]) h

/-- The send primitive assembles after the flag is set (R174). -/
theorem send_state (cmd : Byte) (payload : Payload) (w : WriteOutcome) (s : State) :
    (send cmd payload w s).state =
      assemble cmd payload { s with pendingRequest := pendingAfterSend cmd s.pendingRequest } := rfl

/-- A byte-wise sum in the naturals, truncated, is the byte sum. -/
theorem ofNat_sum_toNat (l : List Byte) : BitVec.ofNat 8 (l.map BitVec.toNat).sum = l.sum := by
  induction l with
  | nil => rfl
  | cons v l ih =>
    rw [List.map_cons, List.sum_cons, List.sum_cons, ← ih, BitVec.ofNat_add]
    simp

/-- `sum8` as a sum of bytes, which wraps as R100 truncates. -/
theorem sum8_eq_sum (b : List Byte) (lo hi : Nat) : sum8 b lo hi = ((b.drop lo).take (hi + 1 - lo)).sum :=
  ofNat_sum_toNat _

/-- The frame of a get command. -/
theorem commandFrame_zeroPayload (cmd : Byte) (id : Half) : commandFrame cmd zeroPayload id = getFrame cmd id := by
  apply Vector.toList_inj.mp
  rw [commandFrame_toList]
  simp [sum8_eq_sum, frameBody, zeroPayload, cmdBytes, getFrame, BitVec.add_assoc]

/-- The frame of a set command. -/
theorem commandFrame_setPayload (cmd v : Byte) (id : Half) : commandFrame cmd (setPayload v) id = setFrame cmd v id := by
  apply Vector.toList_inj.mp
  rw [commandFrame_toList]
  simp [sum8_eq_sum, frameBody, setPayload, cmdBytes, setFrame, BitVec.add_assoc]

/-- The frame of SET_DEVICE_ID. -/
theorem commandFrame_newIdPayload (newId id : Half) :
    commandFrame 0x05 (newIdPayload newId) id = newIdFrame newId id := by
  apply Vector.toList_inj.mp
  rw [commandFrame_toList]
  simp [sum8_eq_sum, frameBody, newIdPayload, cmdBytes, newIdFrame, BitVec.add_assoc]

/-! ### The decoders -/

/-- A decode that succeeds passed every check of R140, and its response carries the ID of bytes 6 and 7. -/
theorem decode10_ok {b : List Byte} {p : ParsedResponse} (h : decode10 b = .ok p) :
    b.length = 10 ∧ byteAt b 0 = 0xAA ∧ byteAt b 9 = 0xAB ∧ byteAt b 8 = sum8 b 2 7 ∧ decodeVariant b = .ok p := by
  unfold decode10 at h
  split_ifs at h with h1 h2 h3 h4
  exact ⟨not_not.mp h1, not_not.mp h2, not_not.mp h3, not_not.mp h4, h⟩

/-- Every variant carries the ID of bytes 6 and 7 (R142). -/
theorem decodeVariant_id {b : List Byte} {p : ParsedResponse} (h : decodeVariant b = .ok p) :
    responseId p = responseFrameId b := by
  unfold decodeVariant at h
  split_ifs at h <;> cases h <;> rfl

/-- How an operation that only decodes ends when the decode succeeds (R140). -/
theorem decodeOp_ok (p : ParsedResponse) (s : State) :
    decodeOp (.ok p) s = complete .ok (some (.response p)) none none (cacheId (.ok p) s) := rfl

/-- How an operation that only decodes ends when the decode fails (R149). -/
theorem decodeOp_err (e : FrameError) (s : State) : decodeOp (.err e) s = raise e.toStatus s := rfl

/-- A frame error is reported as one of the four codes of its class, none of them a code of another class (R210). -/
theorem toStatus_frameError (e : FrameError) :
    e.toStatus = .badLength ∨ e.toStatus = .badFraming ∨ e.toStatus = .checksumMismatch ∨ e.toStatus = .unknownCommand := by
  cases e <;> simp [FrameError.toStatus]

/-- What ends a wait is a decoded response of the wanted kind. -/
theorem awaited_some {wanted : ParsedResponse → Bool} {r : DecodeOutcome} {p : ParsedResponse} :
    awaited wanted r = some p ↔ r = .ok p ∧ wanted p = true := by
  cases r with
  | ok q =>
    simp only [awaited, DecodeOutcome.ok.injEq]
    by_cases hq : wanted q = true
    · simp only [hq, if_true, Option.some.injEq]
      exact ⟨fun h => ⟨h, h ▸ hq⟩, fun h => h.1⟩
    · simp only [hq, if_false, Bool.false_eq_true, reduceCtorEq, false_iff, not_and]
      rintro rfl
      exact hq
  | err e => simp [awaited]

/-! ### The command template -/

/-- The four ends of a command in IDLE (R176). -/
theorem command_cases (p : Packed) (valid : Bool) (w : WriteOutcome) (s : State) :
    (valid = false ∧ command p valid w s = raise .outOfRange s) ∨
    (valid = true ∧ s.pendingRequest = true ∧ command p valid w s = raise .requestPending s) ∨
    (valid = true ∧ s.pendingRequest = false ∧ writeOk w = true ∧
      command p valid w s = complete .busy none (some (commandFrame p.cmd p.payload s.deviceId)) none
        { (send p.cmd p.payload w s).state with
          fsmState := if p.cmd = 0x04 then .awaitMeas else .awaitAck, readCount := 0 }) ∨
    (valid = true ∧ s.pendingRequest = false ∧ writeOk w = false ∧
      command p valid w s = complete .ioError none (some (commandFrame p.cmd p.payload s.deviceId)) none
        (send p.cmd p.payload w s).state) := by
  cases valid
  · exact .inl ⟨rfl, rfl⟩
  · cases hp : s.pendingRequest
    · cases hw : writeOk w
      · exact .inr (.inr (.inr ⟨rfl, rfl, rfl, by simp [command, hp, hw]⟩))
      · exact .inr (.inr (.inl ⟨rfl, rfl, rfl, by simp [command, hp, hw]⟩))
    · exact .inr (.inl ⟨rfl, rfl, by simp [command, hp]⟩)

/-! ### The waits and the bootstrap -/

/-- A failed read attempt ends the wait in Timeout or is counted (R188, R189). -/
theorem failedRead_cases (pending : Bool) (dec : DecodeOutcome) (s : State) :
    (s.readCount + 1 = s.params.maxReads ∧ failedRead pending dec s =
      complete .timeout none none (some dec) { s with pendingRequest := pending, fsmState := .idle, readCount := 0 }) ∨
    (s.readCount + 1 ≠ s.params.maxReads ∧ failedRead pending dec s =
      complete .busy none none (some dec) { s with readCount := s.readCount + 1 }) := by
  by_cases h : s.readCount + 1 = s.params.maxReads
  · exact .inl ⟨h, by simp [failedRead, h]⟩
  · exact .inr ⟨h, by simp [failedRead, h]⟩

/-- A READ in AWAIT_ACK is answered or fails (R188). -/
theorem readAwaitAck_cases (chunk : List Byte) (s : State) :
    (∃ p, decode10 chunk = .ok p ∧ isAck p = true ∧ readAwaitAck chunk s =
      complete .ok (some (.response p)) none (some (.ok p))
        { cacheId (.ok p) s with pendingRequest := false, fsmState := .idle, readCount := 0 }) ∨
    (awaited isAck (decode10 chunk) = none ∧
      readAwaitAck chunk s = failedRead false (decode10 chunk) (cacheId (decode10 chunk) s)) := by
  cases h : awaited isAck (decode10 chunk) with
  | some p =>
    obtain ⟨hd, hp⟩ := awaited_some.mp h
    exact .inl ⟨p, hd, hp, by simp only [readAwaitAck, h]; rw [hd]⟩
  | none => exact .inr ⟨rfl, by simp only [readAwaitAck, h]⟩

/-- A READ in AWAIT_MEAS is answered or fails (R189). -/
theorem readAwaitMeas_cases (chunk : List Byte) (s : State) :
    (∃ p, decode10 chunk = .ok p ∧ isMeasurement p = true ∧ readAwaitMeas chunk s =
      complete .ok (some (.response p)) none (some (.ok p))
        { cacheId (.ok p) s with fsmState := .idle, readCount := 0 }) ∨
    (awaited isMeasurement (decode10 chunk) = none ∧
      readAwaitMeas chunk s = failedRead s.pendingRequest (decode10 chunk) (cacheId (decode10 chunk) s)) := by
  cases h : awaited isMeasurement (decode10 chunk) with
  | some p =>
    obtain ⟨hd, hp⟩ := awaited_some.mp h
    exact .inl ⟨p, hd, hp, by simp only [readAwaitMeas, h]; rw [hd]⟩
  | none => exact .inr ⟨rfl, by simp only [readAwaitMeas, h]⟩

/-- A READ in BOOT ends the bootstrap or is a failed poll (R191). -/
theorem readBoot_cases (chunk : List Byte) (w : WriteOutcome) (s : State) :
    (∃ p, decode10 chunk = .ok p ∧ isAck p = true ∧ readBoot chunk w s =
      complete .ok (some (.response p)) none (some (.ok p)) (leaveBoot .idle (cacheId (.ok p) s))) ∨
    (awaited isAck (decode10 chunk) = none ∧
      readBoot chunk w s = failedPoll w (decode10 chunk) (cacheId (decode10 chunk) s)) := by
  cases h : awaited isAck (decode10 chunk) with
  | some p =>
    obtain ⟨hd, hp⟩ := awaited_some.mp h
    exact .inl ⟨p, hd, hp, by simp only [readBoot, h]; rw [hd]⟩
  | none => exact .inr ⟨rfl, by simp only [readBoot, h]⟩

/-- A resend is written or fails (R191). -/
theorem resend_cases (w : WriteOutcome) (dec : DecodeOutcome) (s : State) :
    (writeOk w = true ∧ resend w dec s =
      complete .busy none (some (commandFrame 0x07 zeroPayload s.deviceId)) (some dec)
        { (send 0x07 zeroPayload w { s with pendingRequest := false }).state with
          cycleCount := s.cycleCount + 1, pollCount := 0 }) ∨
    (writeOk w = false ∧ resend w dec s =
      complete .ioError none (some (commandFrame 0x07 zeroPayload s.deviceId)) (some dec)
        (leaveBoot .failed (send 0x07 zeroPayload w { s with pendingRequest := false }).state)) := by
  cases hw : writeOk w
  · exact .inr ⟨rfl, by simp [resend, packFirmware, hw]⟩
  · exact .inl ⟨rfl, by simp [resend, packFirmware, hw]⟩

/-- A failed poll continues the cycle, exhausts the last one, or resends (R191). -/
theorem failedPoll_cases (w : WriteOutcome) (dec : DecodeOutcome) (s : State) :
    (s.pollCount + 1 < s.params.pollsPerCycle ∧ failedPoll w dec s =
      complete .busy none none (some dec) { s with pollCount := s.pollCount + 1 }) ∨
    (¬s.pollCount + 1 < s.params.pollsPerCycle ∧ s.cycleCount = s.params.maxCycles ∧ failedPoll w dec s =
      complete .unreachable none none (some dec) (leaveBoot .failed s)) ∨
    (¬s.pollCount + 1 < s.params.pollsPerCycle ∧ s.cycleCount ≠ s.params.maxCycles ∧
      failedPoll w dec s = resend w dec s) := by
  by_cases h1 : s.pollCount + 1 < s.params.pollsPerCycle
  · exact .inl ⟨h1, by simp only [failedPoll, h1, if_true]⟩
  · by_cases h2 : s.cycleCount = s.params.maxCycles
    · exact .inr (.inl ⟨h1, h2, by simp only [failedPoll, h1, if_false, h2, if_true]⟩)
    · exact .inr (.inr ⟨h1, h2, by simp only [failedPoll, h1, if_false, h2]⟩)

/-- BOOT's first request is written or fails (R190). -/
theorem bootOp_cases (w : WriteOutcome) (s : State) :
    (writeOk w = true ∧ bootOp w s =
      complete .busy none (some (commandFrame 0x07 zeroPayload s.deviceId)) none
        { (send 0x07 zeroPayload w s).state with fsmState := .boot, cycleCount := 1, pollCount := 0 }) ∨
    (writeOk w = false ∧ bootOp w s =
      complete .ioError none (some (commandFrame 0x07 zeroPayload s.deviceId)) none
        { (send 0x07 zeroPayload w s).state with pendingRequest := false, fsmState := .failed }) := by
  cases hw : writeOk w
  · exact .inr ⟨rfl, by simp [bootOp, packFirmware, hw]⟩
  · exact .inl ⟨rfl, by simp [bootOp, packFirmware, hw]⟩

/-- READ by the state it finds (R193). -/
theorem readOp_cases (r : ReadOutcome) (w : WriteOutcome) (s : State) :
    (busy s.fsmState = false ∧ readOp r w s = raise .wrongState s) ∨
    (s.fsmState = .boot ∧ r = .err ∧ readOp r w s = readErrBoot s) ∨
    ((s.fsmState = .awaitAck ∨ s.fsmState = .awaitMeas) ∧ r = .err ∧ readOp r w s = readErrWait s) ∨
    (∃ chunk, r = .ok chunk ∧ s.fsmState = .boot ∧ readOp r w s = readBoot chunk w s) ∨
    (∃ chunk, r = .ok chunk ∧ s.fsmState = .awaitAck ∧ readOp r w s = readAwaitAck chunk s) ∨
    (∃ chunk, r = .ok chunk ∧ s.fsmState = .awaitMeas ∧ readOp r w s = readAwaitMeas chunk s) := by
  cases hf : s.fsmState <;> cases r <;> simp [readOp, hf, busy]

/-! ### RESET -/

/-- RESET clears every byte of `tx_buf` and leaves any other index (R240). -/
theorem read_clearTxBuf {m : Memory} (h : Memory.wf m = true) (a : Nat) :
    Memory.read (clearTxBuf m) a = if a < 19 then 0x00 else Memory.read m a := by
  rw [clearTxBuf, Memory.read_writeBytes _ _ _ h]
  by_cases ha : a < 19
  · rw [if_pos ⟨Nat.zero_le _, by simpa using ha⟩, if_pos ha, Nat.sub_zero]
    rw [List.getD_eq_getElem _ _ (by simpa using ha), List.getElem_replicate]
  · rw [if_neg (by simpa using ha), if_neg ha]

/-- RESET leaves the transmit space as State.reset has it. -/
theorem clearTxBuf_eq_nil {m : Memory} (h : Memory.wf m = true) (hin : Memory.inTxBuf m = true) : clearTxBuf m = [] := by
  refine Memory.ext_of_read (Memory.writeBytes_wf _ _ h) Memory.wf_nil fun a => ?_
  rw [read_clearTxBuf h]
  by_cases ha : a < 19
  · rw [if_pos ha]; rfl
  · rw [if_neg ha, Memory.read_nil]
    clear h
    induction m with
    | nil => rfl
    | cons c m ih =>
      simp only [Memory.inTxBuf, List.all_cons, Bool.and_eq_true, decide_eq_true_eq] at hin
      obtain ⟨b, v⟩ := c
      have hb : a ≠ b := by
        have := hin.1
        simp only at this
        omega
      simp only [Memory.read, hb, if_false]
      exact ih (by simpa [Memory.inTxBuf] using hin.2)

end Sys2Proof.Machine
end

