-- ==== Sys2Proof/Laws/PerInstr.lean ====
section
/-! SUPPORT. The statement made of every instruction as syntax, with one lemma per constructor: the decoder reads from
the encoder's event the instruction it was written from. -/

namespace Sys2Proof.Laws.RoundTrip

open Sys2Proof Sys2Proof.Machine

/-- Decoding the encoding of `i` gives `i`. -/
def Statement (i : Instr) : Prop := decode (encode i) = .ok i

theorem cksum19 (f : Frame19) : Statement (.cksum19 f) :=
  decode_of_hostOp ((hostOp_cksum19 _ _).trans (by simp))

theorem cksum10 (f : Frame10) : Statement (.cksum10 f) :=
  decode_of_hostOp ((hostOp_cksum10 _ _).trans (by simp))

theorem assemble (cmd : Byte) (payload : Payload) : Statement (.assemble cmd payload) :=
  decode_of_hostOp ((hostOp_assemble _ _).trans (by simp [assembleOperands]))

theorem decode10 (b : List Byte) : Statement (.decode10 b) :=
  decode_of_hostOp (hostOp_decode10 _ _)

theorem parse19 (b : List Byte) : Statement (.parse19 b) :=
  decode_of_hostOp (hostOp_parse19 _ _)

theorem boot (w : WriteOutcome) : Statement (.boot w) :=
  decode_of_hostOp ((hostOp_boot _ _).trans (by simp [noOperand]))

theorem read (r : ReadOutcome) (w : WriteOutcome) : Statement (.read r w) := by
  cases r <;> exact decode_of_hostOp ((hostOp_read _ _).trans (by simp [readOutcomeBytes, readOutcomeOf]))

theorem awaitAck : Statement (.awaitAck) :=
  decode_of_hostOp ((hostOp_awaitAck _ _).trans (by simp [noOperand]))

theorem readMeas : Statement (.readMeas) :=
  decode_of_hostOp ((hostOp_readMeas _ _).trans (by simp [noOperand]))

theorem getReportMode (w : WriteOutcome) : Statement (.getReportMode w) :=
  decode_of_hostOp ((hostOp_getReportMode _ _).trans (by simp [noOperand]))

theorem setReportMode (m : BitVec 1) (w : WriteOutcome) : Statement (.setReportMode m w) :=
  decode_of_hostOp ((hostOp_setReportMode _ _).trans (by simp [oneByte]))

theorem queryData (w : WriteOutcome) : Statement (.queryData w) :=
  decode_of_hostOp ((hostOp_queryData _ _).trans (by simp [noOperand]))

theorem setDeviceId (id : Half) (w : WriteOutcome) : Statement (.setDeviceId id w) :=
  decode_of_hostOp ((hostOp_setDeviceId _ _).trans (by simp [twoBytes]))

theorem getSleep (w : WriteOutcome) : Statement (.getSleep w) :=
  decode_of_hostOp ((hostOp_getSleep _ _).trans (by simp [noOperand]))

theorem setSleep (m : BitVec 1) (w : WriteOutcome) : Statement (.setSleep m w) :=
  decode_of_hostOp ((hostOp_setSleep _ _).trans (by simp [oneByte]))

theorem getFirmware (w : WriteOutcome) : Statement (.getFirmware w) :=
  decode_of_hostOp ((hostOp_getFirmware _ _).trans (by simp [noOperand]))

theorem getPeriod (w : WriteOutcome) : Statement (.getPeriod w) :=
  decode_of_hostOp ((hostOp_getPeriod _ _).trans (by simp [noOperand]))

theorem setPeriod (v : Byte) (w : WriteOutcome) : Statement (.setPeriod v w) :=
  decode_of_hostOp ((hostOp_setPeriod _ _).trans (by simp [oneByte]))

theorem reset : Statement (.reset) :=
  decode_of_hostOp ((hostOp_reset _ _).trans (by simp [noOperand]))

theorem txReportModeGet (stamp : Half) (ck : Byte) : Statement (.txReportModeGet stamp ck) :=
  decode_of_commandFrame (t := .txReportModeGet)
    (by simp [commandFrameTypes, cmdBytes, zeroPayload, ofType_txReportModeGet])
    (by simp [buildCommandFrame, fieldAt, cmdBytes, zeroPayload])

theorem txReportModeSet (m : BitVec 1) (stamp : Half) (ck : Byte) : Statement (.txReportModeSet m stamp ck) :=
  decode_of_commandFrame (t := .txReportModeSet)
    (by simp [commandFrameTypes, cmdBytes, setPayload, ofType_txReportModeGet, ofType_txReportModeSet])
    (by simp [buildCommandFrame, fieldAt, cmdBytes, setPayload])

theorem txQueryData (stamp : Half) (ck : Byte) : Statement (.txQueryData stamp ck) :=
  decode_of_commandFrame (t := .txQueryData)
    (by simp [commandFrameTypes, cmdBytes, zeroPayload, ofType_txReportModeGet, ofType_txReportModeSet,
      ofType_txQueryData])
    (by simp [buildCommandFrame, fieldAt, cmdBytes, zeroPayload])

theorem txSetDeviceId (newId : Half) (stamp : Half) (ck : Byte) : Statement (.txSetDeviceId newId stamp ck) :=
  decode_of_commandFrame (t := .txSetDeviceId)
    (by simp [commandFrameTypes, cmdBytes, newIdPayload, ofType_txReportModeGet, ofType_txReportModeSet,
      ofType_txQueryData, ofType_txSetDeviceId])
    (by simp [buildCommandFrame, fieldAt, cmdBytes, newIdPayload])

theorem txSleepGet (stamp : Half) (ck : Byte) : Statement (.txSleepGet stamp ck) :=
  decode_of_commandFrame (t := .txSleepGet)
    (by simp [commandFrameTypes, cmdBytes, zeroPayload, ofType_txReportModeGet, ofType_txReportModeSet,
      ofType_txQueryData, ofType_txSetDeviceId, ofType_txSleepGet])
    (by simp [buildCommandFrame, fieldAt, cmdBytes, zeroPayload])

theorem txSleepSet (m : BitVec 1) (stamp : Half) (ck : Byte) : Statement (.txSleepSet m stamp ck) :=
  decode_of_commandFrame (t := .txSleepSet)
    (by simp [commandFrameTypes, cmdBytes, setPayload, ofType_txReportModeGet, ofType_txReportModeSet,
      ofType_txQueryData, ofType_txSetDeviceId, ofType_txSleepGet, ofType_txSleepSet])
    (by simp [buildCommandFrame, fieldAt, cmdBytes, setPayload])

theorem txFirmware (stamp : Half) (ck : Byte) : Statement (.txFirmware stamp ck) :=
  decode_of_commandFrame (t := .txFirmware)
    (by simp [commandFrameTypes, cmdBytes, zeroPayload, ofType_txReportModeGet, ofType_txReportModeSet,
      ofType_txQueryData, ofType_txSetDeviceId, ofType_txSleepGet, ofType_txSleepSet, ofType_txFirmware])
    (by simp [buildCommandFrame, fieldAt, cmdBytes, zeroPayload])

theorem txPeriodGet (stamp : Half) (ck : Byte) : Statement (.txPeriodGet stamp ck) :=
  decode_of_commandFrame (t := .txPeriodGet)
    (by simp [commandFrameTypes, cmdBytes, zeroPayload, ofType_txReportModeGet, ofType_txReportModeSet,
      ofType_txQueryData, ofType_txSetDeviceId, ofType_txSleepGet, ofType_txSleepSet, ofType_txFirmware,
      ofType_txPeriodGet])
    (by simp [buildCommandFrame, fieldAt, cmdBytes, zeroPayload])

theorem txPeriodSet (v : Byte) (stamp : Half) (ck : Byte) : Statement (.txPeriodSet v stamp ck) :=
  decode_of_commandFrame (t := .txPeriodSet)
    (by simp [commandFrameTypes, cmdBytes, setPayload, ofType_txReportModeGet, ofType_txReportModeSet,
      ofType_txQueryData, ofType_txSetDeviceId, ofType_txSleepGet, ofType_txSleepSet, ofType_txFirmware,
      ofType_txPeriodGet, ofType_txPeriodSet])
    (by simp [buildCommandFrame, fieldAt, cmdBytes, setPayload])

theorem rxMeasurement (a b c d : Byte) (id : Half) (ck : Byte) : Statement (.rxMeasurement a b c d id ck) :=
  decode_of_responseFrame (t := .rxMeasurement) (by simp [find_responseFrame]) (by simp [buildResponseFrame, fieldAt,
    rspBytes])

theorem rxAckReportMode (tf mv ig : Byte) (id : Half) (ck : Byte) : Statement (.rxAckReportMode tf mv ig id ck) :=
  decode_of_responseFrame (t := .rxAckReportMode) (by simp [find_responseFrame]) (by simp [buildResponseFrame, fieldAt,
    rspBytes])

theorem rxAckSleep (tf mv ig : Byte) (id : Half) (ck : Byte) : Statement (.rxAckSleep tf mv ig id ck) :=
  decode_of_responseFrame (t := .rxAckSleep) (by simp [find_responseFrame]) (by simp [buildResponseFrame, fieldAt,
    rspBytes])

theorem rxAckPeriod (tf mv ig : Byte) (id : Half) (ck : Byte) : Statement (.rxAckPeriod tf mv ig id ck) :=
  decode_of_responseFrame (t := .rxAckPeriod) (by simp [find_responseFrame]) (by simp [buildResponseFrame, fieldAt,
    rspBytes])

theorem rxAckFirmware (y mo d : Byte) (id : Half) (ck : Byte) : Statement (.rxAckFirmware y mo d id ck) :=
  decode_of_responseFrame (t := .rxAckFirmware) (by simp [find_responseFrame]) (by simp [buildResponseFrame, fieldAt,
    rspBytes])

theorem rxAckDeviceId (a b c : Byte) (id : Half) (ck : Byte) : Statement (.rxAckDeviceId a b c id ck) :=
  decode_of_responseFrame (t := .rxAckDeviceId) (by simp [find_responseFrame]) (by simp [buildResponseFrame, fieldAt,
    rspBytes])

end Sys2Proof.Laws.RoundTrip
end

