-- ==== Sys2Proof/WellFormed.lean ====
section
/-! DEFINITION. Which instructions are well formed. The operand types already exclude what R72 of spec 30_encoding.md calls
unformable, so every host operation is well formed. A frame word is well formed when it is one the block itself would
put on the wire or accept from it: its checksum byte is the sum of R100, and a period it sets is within the range that
R120 lets a frame carry. An instruction that is not well formed still has its meaning: the checksum is validated by the
decoder (R140), not by the table (R74), and the packer raises OutOfRange (R120). -/

namespace Sys2Proof

/-- A command frame whose byte 17 is the sum over bytes 2..16 (R61). -/
def cmdChecksumOk (cmd : Byte) (payload : Payload) (stamp : Half) (ck : Byte) : Bool :=
  Machine.sum8 (Machine.cmdBytes cmd payload stamp ck) 2 16 == ck

/-- A response frame whose byte 8 is the sum over bytes 2..7 (R62). -/
def rspChecksumOk (tag b2 b3 b4 b5 : Byte) (id : Half) (ck : Byte) : Bool :=
  Machine.sum8 (Machine.rspBytes tag b2 b3 b4 b5 id ck) 2 7 == ck

/-- The checks on an instruction. -/
def WellFormed (i : Instr) : Bool :=
  match i with
  | .cksum19 _ => true
  | .cksum10 _ => true
  | .assemble _ _ => true
  | .decode10 _ => true
  | .parse19 _ => true
  | .boot _ => true
  | .read _ _ => true
  | .awaitAck => true
  | .readMeas => true
  | .getReportMode _ => true
  | .setReportMode _ _ => true
  | .queryData _ => true
  | .setDeviceId _ _ => true
  | .getSleep _ => true
  | .setSleep _ _ => true
  | .getFirmware _ => true
  | .getPeriod _ => true
  | .setPeriod _ _ => true
  | .reset => true
  | .txReportModeGet stamp ck => cmdChecksumOk 0x02 Machine.zeroPayload stamp ck
  | .txReportModeSet m stamp ck => cmdChecksumOk 0x02 (Machine.setPayload (Machine.modeByte m)) stamp ck
  | .txQueryData stamp ck => cmdChecksumOk 0x04 Machine.zeroPayload stamp ck
  | .txSetDeviceId newId stamp ck => cmdChecksumOk 0x05 (Machine.newIdPayload newId) stamp ck
  | .txSleepGet stamp ck => cmdChecksumOk 0x06 Machine.zeroPayload stamp ck
  | .txSleepSet m stamp ck => cmdChecksumOk 0x06 (Machine.setPayload (Machine.modeByte m)) stamp ck
  | .txFirmware stamp ck => cmdChecksumOk 0x07 Machine.zeroPayload stamp ck
  | .txPeriodGet stamp ck => cmdChecksumOk 0x08 Machine.zeroPayload stamp ck
  | .txPeriodSet v stamp ck =>
    decide (v.toNat ≤ Config.periodMax) && cmdChecksumOk 0x08 (Machine.setPayload v) stamp ck
  | .rxMeasurement a b c d id ck => rspChecksumOk 0xC0 a b c d id ck
  | .rxAckReportMode tf mv ig id ck => rspChecksumOk 0xC5 0x02 tf mv ig id ck
  | .rxAckSleep tf mv ig id ck => rspChecksumOk 0xC5 0x06 tf mv ig id ck
  | .rxAckPeriod tf mv ig id ck => rspChecksumOk 0xC5 0x08 tf mv ig id ck
  | .rxAckFirmware y mo d id ck => rspChecksumOk 0xC5 0x07 y mo d id ck
  | .rxAckDeviceId a b c id ck => rspChecksumOk 0xC5 0x05 a b c id ck

end Sys2Proof
end

