-- ==== Sys2Proof/Tests/Slice0.lean ====
section
/-! SUPPORT. The model's own tests: the checks of WellFormed, a word written out from the spec's encoding for every
constructor, single steps against the vectors of spec 95_test_vectors.md (named V-… in the comments), and for every
statement with hypotheses a state and operands that meet them. No expected value is the model's own answer: each comes
from the spec's tables or from the sum of R100 done by hand. No vector that depends on PM_HIGH_FIRST is used. -/

namespace Sys2Proof.Tests

open Sys2Proof Sys2Proof.Machine

/-! ### Helpers -/

/-- A state with the flag, the device ID and the counters as the vectors of L2.5 give them. -/
def mkState (f : FsmState) (pending : Bool) (id : Half) (r p c : Nat) : State :=
  { State.reset with
    fsmState := f, pendingRequest := pending, deviceId := id, readCount := r, pollCount := p, cycleCount := c }

/-- The state an outcome leaves, if it is a next state. -/
def nextOf (o : Host.Outcome State Fault Refusal) : Option State :=
  match o with
  | .next t => some t
  | .fault _ => none
  | .refused _ => none

/-- The name a step is refused under, if it is. -/
def refusalOf (o : Host.Outcome State Fault Refusal) : Option Refusal :=
  match o with
  | .next _ => none
  | .fault _ => none
  | .refused r => some r

/-- Status and `fsm_state` after an instruction. -/
def ends (i : Instr) (s : State) : Option (Status × FsmState) := (nextOf (exec i s)).map fun t => (t.status, t.fsmState)

/-- Status and `result` after an instruction. -/
def answers (i : Instr) (s : State) : Option (Status × Option Value) :=
  (nextOf (exec i s)).map fun t => (t.status, t.result)

/-- Status and the frame handed to the transport. -/
def sends (i : Instr) (s : State) : Option (Status × Option (List Byte)) :=
  (nextOf (exec i s)).map fun t => (t.status, t.txOut.map Vector.toList)

/-- Status and the frame in `result`. -/
def builds (i : Instr) (s : State) : Option (Status × List Byte) :=
  (nextOf (exec i s)).map fun t =>
    (t.status, match t.result with
      | some (.frame f) => f.toList
      | _ => [])

/-- The flag, the device ID and the counters after an instruction. -/
def leaves (i : Instr) (s : State) : Option (Bool × Half × Nat × Nat × Nat) :=
  (nextOf (exec i s)).map fun t => (t.pendingRequest, t.deviceId, t.readCount, t.pollCount, t.cycleCount)

/-- A host event with write outcome `Ok(19)`. -/
def hostBytes (b : List Byte) : Event := { format := .hostOp, bytes := b, w := .ok 19 }

/-- A command-frame event. -/
def cmdEvent (b : List Byte) : Event := { format := .cmd19, bytes := b, w := .ok 19 }

/-- A response-frame event. -/
def rspEvent (b : List Byte) : Event := { format := .rsp10, bytes := b, w := .ok 19 }

/-- The instruction an event decodes to. -/
def decoded (e : Event) : Option Instr :=
  match decode e with
  | .ok i => some i
  | .error _ => none

/-- IDLE, nothing pending, ID 0x60A1. -/
def idle : State := mkState .idle false 0x60A1 0 0 0

/-- UNCONNECTED, as after reset. -/
def fresh : State := State.reset

/-! ### WellFormed -/

theorem test_wf_command : WellFormed (.txQueryData 0xFFFF 0x02) = true := by decide
theorem test_wf_command_checksum : WellFormed (.txQueryData 0xFFFF 0x03) = false := by decide
theorem test_wf_mode_checksum : WellFormed (.txSleepSet 1 0xFFFF 0x05) = false := by decide
theorem test_wf_new_id_checksum : WellFormed (.txSetDeviceId 0x62A2 0xFFFF 0x06) = false := by decide
theorem test_wf_period : WellFormed (.txPeriodSet 30 0xFFFF 0x25) = true := by decide
theorem test_wf_period_checksum : WellFormed (.txPeriodSet 30 0xFFFF 0x26) = false := by decide
theorem test_wf_period_range : WellFormed (.txPeriodSet 31 0xFFFF 0x26) = false := by decide
theorem test_wf_response : WellFormed (.rxAckFirmware 15 7 10 0x60A1 0x28) = true := by decide
theorem test_wf_response_checksum : WellFormed (.rxAckFirmware 15 7 10 0x60A1 0x29) = false := by decide
theorem test_wf_measurement_checksum : WellFormed (.rxMeasurement 0xD4 0x04 0x3A 0x0A 0x60A1 0x1E) = false := by decide

/-! ### Decoding: one event for every constructor, its bytes written out from R61, R62, R68, R69 and R71 -/

theorem test_decode_cksum19 :
    decoded (hostBytes [0x01, 0xAA, 0xB4, 0x04, 0x00, 0x00, 0x00, 0x00, 0x00, 0x00, 0x00, 0x00, 0x00, 0x00, 0x00, 0x00,
      0xFF, 0xFF, 0x02, 0xAB]) =
      some (.cksum19 #v[0xAA, 0xB4, 0x04, 0x00, 0x00, 0x00, 0x00, 0x00, 0x00, 0x00, 0x00, 0x00, 0x00, 0x00, 0x00, 0xFF,
        0xFF, 0x02, 0xAB]) := by decide
theorem test_decode_cksum10 :
    decoded (hostBytes [0x02, 0xAA, 0xC0, 0xD4, 0x04, 0x3A, 0x0A, 0xA1, 0x60, 0x1D, 0xAB]) =
      some (.cksum10 #v[0xAA, 0xC0, 0xD4, 0x04, 0x3A, 0x0A, 0xA1, 0x60, 0x1D, 0xAB]) := by decide
theorem test_decode_assemble :
    decoded (hostBytes [0x03, 0x04, 0x01, 0x02, 0x03, 0x04, 0x05, 0x06, 0x07, 0x08, 0x09, 0x0A, 0x0B, 0x0C]) =
      some (.assemble 0x04 #v[0x01, 0x02, 0x03, 0x04, 0x05, 0x06, 0x07, 0x08, 0x09, 0x0A, 0x0B, 0x0C]) := by decide
theorem test_decode_decode10 :
    decoded (hostBytes [0x04, 0xAA]) =
      some (.decode10 [0xAA]) := by decide
theorem test_decode_parse19 :
    decoded (hostBytes [0x05]) =
      some (.parse19 []) := by decide
theorem test_decode_boot :
    decoded (⟨.hostOp, [0x10], .err⟩) =
      some (.boot .err) := by decide
theorem test_decode_read :
    decoded (⟨.hostOp, [0x11, 0x00, 0xAA], .ok 7⟩) =
      some (.read (.ok [0xAA]) (.ok 7)) := by decide
theorem test_decode_read_empty :
    decoded (hostBytes [0x11, 0x00]) =
      some (.read (.ok []) (.ok 19)) := by decide
theorem test_decode_read_err :
    decoded (hostBytes [0x11, 0x01]) =
      some (.read .err (.ok 19)) := by decide
theorem test_decode_awaitAck :
    decoded (hostBytes [0x12]) =
      some (.awaitAck) := by decide
theorem test_decode_readMeas :
    decoded (hostBytes [0x13]) =
      some (.readMeas) := by decide
theorem test_decode_getReportMode :
    decoded (hostBytes [0x20]) =
      some (.getReportMode (.ok 19)) := by decide
theorem test_decode_setReportMode :
    decoded (hostBytes [0x21, 0x01]) =
      some (.setReportMode 1 (.ok 19)) := by decide
theorem test_decode_queryData :
    decoded (hostBytes [0x22]) =
      some (.queryData (.ok 19)) := by decide
theorem test_decode_setDeviceId :
    decoded (hostBytes [0x23, 0xA2, 0x62]) =
      some (.setDeviceId 0x62A2 (.ok 19)) := by decide
theorem test_decode_getSleep :
    decoded (⟨.hostOp, [0x24], .ok 7⟩) =
      some (.getSleep (.ok 7)) := by decide
theorem test_decode_setSleep :
    decoded (hostBytes [0x25, 0x00]) =
      some (.setSleep 0 (.ok 19)) := by decide
theorem test_decode_getFirmware :
    decoded (hostBytes [0x26]) =
      some (.getFirmware (.ok 19)) := by decide
theorem test_decode_getPeriod :
    decoded (hostBytes [0x27]) =
      some (.getPeriod (.ok 19)) := by decide
theorem test_decode_setPeriod :
    decoded (hostBytes [0x28, 0x1F]) =
      some (.setPeriod 31 (.ok 19)) := by decide
theorem test_decode_reset :
    decoded (hostBytes [0x3F]) =
      some (.reset) := by decide
theorem test_decode_txReportModeGet :
    decoded (cmdEvent [0xAA, 0xB4, 0x02, 0x00, 0x00, 0x00, 0x00, 0x00, 0x00, 0x00, 0x00, 0x00, 0x00, 0x00, 0x00, 0xA1,
      0x60, 0x03, 0xAB]) =
      some (.txReportModeGet 0x60A1 0x03) := by decide
theorem test_decode_txReportModeSet :
    decoded (cmdEvent [0xAA, 0xB4, 0x02, 0x01, 0x01, 0x00, 0x00, 0x00, 0x00, 0x00, 0x00, 0x00, 0x00, 0x00, 0x00, 0xA1,
      0x60, 0x05, 0xAB]) =
      some (.txReportModeSet 1 0x60A1 0x05) := by decide
theorem test_decode_txQueryData :
    decoded (cmdEvent [0xAA, 0xB4, 0x04, 0x00, 0x00, 0x00, 0x00, 0x00, 0x00, 0x00, 0x00, 0x00, 0x00, 0x00, 0x00, 0xFF,
      0xFF, 0x02, 0xAB]) =
      some (.txQueryData 0xFFFF 0x02) := by decide
theorem test_decode_txSetDeviceId :
    decoded (cmdEvent [0xAA, 0xB4, 0x05, 0x00, 0x00, 0x00, 0x00, 0x00, 0x00, 0x00, 0x00, 0x00, 0x00, 0xA2, 0x62, 0xA1,
      0x60, 0x0A, 0xAB]) =
      some (.txSetDeviceId 0x62A2 0x60A1 0x0A) := by decide
theorem test_decode_txSleepGet :
    decoded (cmdEvent [0xAA, 0xB4, 0x06, 0x00, 0x00, 0x00, 0x00, 0x00, 0x00, 0x00, 0x00, 0x00, 0x00, 0x00, 0x00, 0xA1,
      0x60, 0x07, 0xAB]) =
      some (.txSleepGet 0x60A1 0x07) := by decide
theorem test_decode_txSleepSet :
    decoded (cmdEvent [0xAA, 0xB4, 0x06, 0x01, 0x00, 0x00, 0x00, 0x00, 0x00, 0x00, 0x00, 0x00, 0x00, 0x00, 0x00, 0xA1,
      0x60, 0x08, 0xAB]) =
      some (.txSleepSet 0 0x60A1 0x08) := by decide
theorem test_decode_txFirmware :
    decoded (cmdEvent [0xAA, 0xB4, 0x07, 0x00, 0x00, 0x00, 0x00, 0x00, 0x00, 0x00, 0x00, 0x00, 0x00, 0x00, 0x00, 0xFF,
      0xFF, 0x05, 0xAB]) =
      some (.txFirmware 0xFFFF 0x05) := by decide
theorem test_decode_txPeriodGet :
    decoded (cmdEvent [0xAA, 0xB4, 0x08, 0x00, 0x00, 0x00, 0x00, 0x00, 0x00, 0x00, 0x00, 0x00, 0x00, 0x00, 0x00, 0xA1,
      0x60, 0x09, 0xAB]) =
      some (.txPeriodGet 0x60A1 0x09) := by decide
theorem test_decode_txPeriodSet :
    decoded (cmdEvent [0xAA, 0xB4, 0x08, 0x01, 0x05, 0x00, 0x00, 0x00, 0x00, 0x00, 0x00, 0x00, 0x00, 0x00, 0x00, 0xA1,
      0x60, 0x0F, 0xAB]) =
      some (.txPeriodSet 5 0x60A1 0x0F) := by decide
theorem test_decode_rxMeasurement :
    decoded (rspEvent [0xAA, 0xC0, 0xD4, 0x04, 0x3A, 0x0A, 0xA1, 0x60, 0x1D, 0xAB]) =
      some (.rxMeasurement 0xD4 0x04 0x3A 0x0A 0x60A1 0x1D) := by decide
theorem test_decode_rxAckReportMode :
    decoded (rspEvent [0xAA, 0xC5, 0x02, 0x01, 0x00, 0x55, 0xA1, 0x60, 0x59, 0xAB]) =
      some (.rxAckReportMode 0x01 0x00 0x55 0x60A1 0x59) := by decide
theorem test_decode_rxAckSleep :
    decoded (rspEvent [0xAA, 0xC5, 0x06, 0x01, 0x01, 0x00, 0xA1, 0x60, 0x09, 0xAB]) =
      some (.rxAckSleep 0x01 0x01 0x00 0x60A1 0x09) := by decide
theorem test_decode_rxAckPeriod :
    decoded (rspEvent [0xAA, 0xC5, 0x08, 0x01, 0x1E, 0x00, 0xA1, 0x60, 0x28, 0xAB]) =
      some (.rxAckPeriod 0x01 0x1E 0x00 0x60A1 0x28) := by decide
theorem test_decode_rxAckFirmware :
    decoded (rspEvent [0xAA, 0xC5, 0x07, 0x0F, 0x07, 0x0A, 0xA1, 0x60, 0x28, 0xAB]) =
      some (.rxAckFirmware 0x0F 0x07 0x0A 0x60A1 0x28) := by decide
theorem test_decode_rxAckDeviceId :
    decoded (rspEvent [0xAA, 0xC5, 0x05, 0x11, 0x22, 0x33, 0xA2, 0x62, 0x6F, 0xAB]) =
      some (.rxAckDeviceId 0x11 0x22 0x33 0x62A2 0x6F) := by decide

/-- R72: a reserved OP, a mode of 2, an ID of one byte, and an OP with a byte too many. -/
theorem test_decode_refuses :
    decode (hostBytes [0x00]) = .error (.reservedOp 0x00) ∧ decode (hostBytes [0x21, 0x02]) =
      .error (.operandBytes 0x21) ∧
      decode (hostBytes [0x23, 0xA2]) = .error (.operandBytes 0x23) ∧ decode (hostBytes [0x3F, 0x00]) =
        .error (.operandBytes 0x3F) := by
  decide

/-- R68: a command frame with a padding byte set is of no listed type, and R70: neither is an unlisted echo. -/
theorem test_decode_refuses_frames :
    decoded (cmdEvent [0xAA, 0xB4, 0x07, 0x00, 0x00, 0x00, 0x00, 0x00, 0x00, 0x01, 0x00, 0x00, 0x00, 0x00, 0x00, 0xFF,
      0xFF, 0x06, 0xAB]) = none ∧
      decoded (rspEvent [0xAA, 0xC5, 0x04, 0x00, 0x00, 0x00, 0xA1, 0x60, 0x05, 0xAB]) = none := by
  decide

/-- Two frame rows differ in a bit that both masks fix. -/
def disjoint (r q : FrameRow) : Bool :=
  ((r.pattern.zip r.mask).zip (q.pattern.zip q.mask)).any fun x => (x.1.1 ^^^ x.2.1) &&& x.1.2 &&& x.2.2 != 0

theorem test_command_rows_disjoint : commandFrameTypes.Pairwise fun t u => disjoint (frameRow t) (frameRow u) = true := by
  decide

theorem test_response_rows_disjoint : responseFrameTypes.Pairwise fun t u => disjoint (frameRow t) (frameRow u) =
  true := by
  decide

/-- R74: the table's numbering, the first byte of a frame in bits 7 to 0. -/
theorem test_table_words :
    decodeTableWord 8 0x12 = some .awaitAck ∧ decodeTableWord 8 0x23 = some (.setDeviceId 0 (.ok 19)) ∧
      decodeTableWord 80 0xAB28_60A1_0A07_0FC5_07AA = none ∧
      decodeTableWord 80 0xAB28_60A1_0A07_0F07_C5AA = some (.rxAckFirmware 15 7 10 0x60A1 0x28) := by
  decide

theorem test_step_runs_a_table_word :
    (nextOf (step (State.reset.withFetchWord 8 0x10))).map (fun t => (t.status, t.fsmState)) = some (.busy, .boot) := by
  decide

/-! ### One step each, from the vectors of 95_test_vectors.md (L2.1 to L2.5) -/

/-- L2.1: head, tail and byte 17 are ignored; V-F39: accepted in FAILED. -/
theorem test_cksum19 :
    answers (.cksum19 #v[0x00, 0x00, 0x04, 0x00, 0x00, 0x00, 0x00, 0x00, 0x00, 0x00, 0x00, 0x00, 0x00, 0x00, 0x00, 0xFF,
      0xFF, 0x77, 0x00]) (mkState .failed false 0xFFFF 0 0 0) =
      some (.ok, some (.checksum 0x02)) := by
  decide

/-- L2.1: fifteen bytes of FF. -/
theorem test_cksum19_wraps :
    answers (.cksum19 #v[0xAA, 0xB4, 0xFF, 0xFF, 0xFF, 0xFF, 0xFF, 0xFF, 0xFF, 0xFF, 0xFF, 0xFF, 0xFF, 0xFF, 0xFF, 0xFF,
      0xFF, 0x00, 0xAB]) idle = some (.ok, some (.checksum 0xF1)) := by
  decide

/-- V-F4, with the tag not summed (L2.1). -/
theorem test_cksum10 :
    answers (.cksum10 #v[0xAA, 0x00, 0xD4, 0x04, 0x3A, 0x0A, 0xA1, 0x60, 0x00, 0xAB]) fresh =
      some (.ok, some (.checksum 0x1D)) := by
  decide

/-- V-F6. -/
theorem test_cksum10_busy :
    answers (.cksum10 #v[0xAA, 0xC0, 0xD4, 0x04, 0x3A, 0x0A, 0xA1, 0x60, 0x1D, 0xAB]) (mkState .boot true 0xFFFF 0 1 1) =
      some (.wrongState, none) := by
  decide

/-- L2.2. -/
theorem test_assemble :
    builds (.assemble 0x04 #v[0x01, 0x02, 0x03, 0x04, 0x05, 0x06, 0x07, 0x08, 0x09, 0x0A, 0x0B,
      0x0C]) (mkState .idle false 0x1234 0 0 0) =
      some (.ok, [0xAA, 0xB4, 0x04, 0x01, 0x02, 0x03, 0x04, 0x05, 0x06, 0x07, 0x08, 0x09, 0x0A, 0x0B, 0x0C, 0x34, 0x12,
        0x98, 0xAB]) := by
  decide

/-- V-F25: the ID is cached and the flag kept. -/
theorem test_decode10 :
    leaves (.decode10 [0xAA, 0xC5, 0x05, 0x00, 0x00, 0x00, 0xA2, 0x62, 0x09, 0xAB]) (mkState .idle true 0x60A1 0 0 0) =
      some (true, 0x62A2, 0, 0, 0) := by
  decide

/-- L2.3: ack echo 0x09. -/
theorem test_decode10_tag :
    answers (.decode10 [0xAA, 0xC5, 0x09, 0x00, 0x00, 0x00, 0xA1, 0x60, 0x0A, 0xAB]) idle =
      some (.unknownCommand, none) := by
  decide

/-- L2.4: a nonzero padding byte is returned raw. -/
theorem test_parse19 :
    answers (.parse19 [0xAA, 0xB4, 0x07, 0x00, 0x00, 0x00, 0x00, 0x00, 0x00, 0x01, 0x00, 0x00, 0x00, 0x00, 0x00, 0xFF,
      0xFF, 0x06, 0xAB]) idle =
      some (.ok, some (.command ⟨0x07, #v[0x00, 0x00, 0x00, 0x00, 0x00, 0x00, 0x01, 0x00, 0x00, 0x00, 0x00, 0x00],
        0xFFFF⟩)) := by
  decide

/-- L2.4: byte 1 = B5. -/
theorem test_parse19_tag :
    answers (.parse19 [0xAA, 0xB5, 0x08, 0x01, 0x05, 0x00, 0x00, 0x00, 0x00, 0x00, 0x00, 0x00, 0x00, 0x00, 0x00, 0xA1,
      0x60, 0x0F, 0xAB]) idle = some (.unknownCommand, none) := by
  decide

/-- P3 step 2. -/
theorem test_boot :
    sends (.boot (.ok 19)) fresh = some (.busy, some [0xAA, 0xB4, 0x07, 0x00, 0x00, 0x00, 0x00, 0x00, 0x00, 0x00, 0x00,
      0x00, 0x00, 0x00, 0x00, 0xFF, 0xFF, 0x05, 0xAB]) := by
  decide

/-- P6 step 2. -/
theorem test_boot_err :
    ends (.boot .err) fresh = some (.ioError, .failed) := by
  decide

/-- V-F10: the resend is stamped with the ID the discarded measurement carried. -/
theorem test_read_resend :
    sends (.read (.ok [0xAA, 0xC0, 0xD4, 0x04, 0x3A, 0x0A, 0x34, 0x12, 0x62,
      0xAB]) (.ok 19)) (mkState .boot true 0xFFFF 0 1 3) =
      some (.busy, some [0xAA, 0xB4, 0x07, 0x00, 0x00, 0x00, 0x00, 0x00, 0x00, 0x00, 0x00, 0x00, 0x00, 0x00, 0x00, 0x34,
        0x12, 0x4D, 0xAB]) := by
  decide

/-- V-F27: the twentieth read is accepted. -/
theorem test_read_last :
    answers (.read (.ok [0xAA, 0xC5, 0x08, 0x01, 0x05, 0x00, 0xA1, 0x60, 0x0F,
      0xAB]) (.ok 19)) (mkState .awaitAck true 0x60A1 19 0 0) =
      some (.ok, some (.response (.configAck 0x08 1 5 0x60A1))) := by
  decide

/-- V-F24. -/
theorem test_awaitAck :
    ends .awaitAck idle = some (.ok, .idle) := by
  decide

/-- P5 step 3. -/
theorem test_awaitAck_pending :
    ends .awaitAck (mkState .idle true 0x60A1 0 0 0) = some (.busy, .awaitAck) := by
  decide

/-- V-F19. -/
theorem test_readMeas :
    ends .readMeas (mkState .idle true 0x60A1 0 0 0) = some (.requestPending, .idle) := by
  decide

/-- L2.2. -/
theorem test_getReportMode :
    sends (.getReportMode (.ok 19)) idle = some (.busy, some [0xAA, 0xB4, 0x02, 0x00, 0x00, 0x00, 0x00, 0x00, 0x00, 0x00,
      0x00, 0x00, 0x00, 0x00, 0x00, 0xA1, 0x60, 0x03, 0xAB]) := by
  decide

/-- L2.2. -/
theorem test_setReportMode :
    sends (.setReportMode 1 (.ok 19)) idle = some (.busy, some [0xAA, 0xB4, 0x02, 0x01, 0x01, 0x00, 0x00, 0x00, 0x00,
      0x00, 0x00, 0x00, 0x00, 0x00, 0x00, 0xA1, 0x60, 0x05, 0xAB]) := by
  decide

/-- V-F21: no flag is set. -/
theorem test_queryData :
    sends (.queryData .err) idle = some (.ioError, some [0xAA, 0xB4, 0x04, 0x00, 0x00, 0x00, 0x00, 0x00, 0x00, 0x00,
      0x00, 0x00, 0x00, 0x00, 0x00, 0xA1, 0x60, 0x05, 0xAB]) ∧
      leaves (.queryData .err) idle = some (false, 0x60A1, 0, 0, 0) := by
  decide

/-- L2.2, and P4 step 1: the cached ID is unchanged. -/
theorem test_setDeviceId :
    sends (.setDeviceId 0x62A2 (.ok 19)) idle = some (.busy, some [0xAA, 0xB4, 0x05, 0x00, 0x00, 0x00, 0x00, 0x00, 0x00,
      0x00, 0x00, 0x00, 0x00, 0xA2, 0x62, 0xA1, 0x60, 0x0A, 0xAB]) ∧
      leaves (.setDeviceId 0x62A2 (.ok 19)) idle = some (true, 0x60A1, 0, 0, 0) := by
  decide

/-- P5 step 1: a short write leaves the flag set. -/
theorem test_getSleep :
    sends (.getSleep (.ok 7)) idle = some (.ioError, some [0xAA, 0xB4, 0x06, 0x00, 0x00, 0x00, 0x00, 0x00, 0x00, 0x00,
      0x00, 0x00, 0x00, 0x00, 0x00, 0xA1, 0x60, 0x07, 0xAB]) ∧
      leaves (.getSleep (.ok 7)) idle = some (true, 0x60A1, 0, 0, 0) := by
  decide

/-- L2.2. -/
theorem test_setSleep :
    sends (.setSleep 1 (.ok 19)) idle = some (.busy, some [0xAA, 0xB4, 0x06, 0x01, 0x01, 0x00, 0x00, 0x00, 0x00, 0x00,
      0x00, 0x00, 0x00, 0x00, 0x00, 0xA1, 0x60, 0x09, 0xAB]) := by
  decide

/-- P4 step 22. -/
theorem test_getFirmware :
    sends (.getFirmware (.ok 19)) (mkState .idle false 0x62A2 0 0 0) =
      some (.busy, some [0xAA, 0xB4, 0x07, 0x00, 0x00, 0x00, 0x00, 0x00, 0x00, 0x00, 0x00, 0x00, 0x00, 0x00, 0x00, 0xA2,
      0x62, 0x0B, 0xAB]) := by
  decide

/-- P1 step 6. -/
theorem test_getPeriod :
    sends (.getPeriod (.ok 19)) idle = some (.busy, some [0xAA, 0xB4, 0x08, 0x00, 0x00, 0x00, 0x00, 0x00, 0x00, 0x00,
      0x00, 0x00, 0x00, 0x00, 0x00, 0xA1, 0x60, 0x09, 0xAB]) := by
  decide

/-- V-F17: OutOfRange before RequestPending. -/
theorem test_setPeriod :
    answers (.setPeriod 31 (.ok 19)) (mkState .idle true 0x60A1 0 0 0) = some (.outOfRange, none) := by
  decide

/-- V-F22. -/
theorem test_setPeriod_short :
    sends (.setPeriod 30 (.ok 18)) idle = some (.ioError, some [0xAA, 0xB4, 0x08, 0x01, 0x1E, 0x00, 0x00, 0x00, 0x00,
      0x00, 0x00, 0x00, 0x00, 0x00, 0x00, 0xA1, 0x60, 0x28, 0xAB]) := by
  decide

/-- V-F8. -/
theorem test_reset :
    leaves .reset (mkState .boot true 0x60A1 0 1 4) = some (false, 0xFFFF, 0, 0, 0) := by
  decide

/-- L2.2. -/
theorem test_txReportModeGet :
    builds (.txReportModeGet 0 0) idle = some (.ok, [0xAA, 0xB4, 0x02, 0x00, 0x00, 0x00, 0x00, 0x00, 0x00, 0x00, 0x00,
      0x00, 0x00, 0x00, 0x00, 0xA1, 0x60, 0x03, 0xAB]) := by
  decide

/-- L2.2. -/
theorem test_txReportModeSet :
    builds (.txReportModeSet 0 0 0) idle = some (.ok, [0xAA, 0xB4, 0x02, 0x01, 0x00, 0x00, 0x00, 0x00, 0x00, 0x00, 0x00,
      0x00, 0x00, 0x00, 0x00, 0xA1, 0x60, 0x04, 0xAB]) := by
  decide

/-- L2.2. -/
theorem test_txQueryData :
    builds (.txQueryData 0 0) fresh = some (.ok, [0xAA, 0xB4, 0x04, 0x00, 0x00, 0x00, 0x00, 0x00, 0x00, 0x00, 0x00, 0x00,
      0x00, 0x00, 0x00, 0xFF, 0xFF, 0x02, 0xAB]) := by
  decide

/-- L2.2. -/
theorem test_txSetDeviceId :
    builds (.txSetDeviceId 0xFFFF 0 0) idle = some (.ok, [0xAA, 0xB4, 0x05, 0x00, 0x00, 0x00, 0x00, 0x00, 0x00, 0x00,
      0x00, 0x00, 0x00, 0xFF, 0xFF, 0xA1, 0x60, 0x04, 0xAB]) := by
  decide

/-- L2.2. -/
theorem test_txSleepGet :
    builds (.txSleepGet 0 0) fresh = some (.ok, [0xAA, 0xB4, 0x06, 0x00, 0x00, 0x00, 0x00, 0x00, 0x00, 0x00, 0x00, 0x00,
      0x00, 0x00, 0x00, 0xFF, 0xFF, 0x04, 0xAB]) := by
  decide

/-- L2.2. -/
theorem test_txSleepSet :
    builds (.txSleepSet 0 0 0) idle = some (.ok, [0xAA, 0xB4, 0x06, 0x01, 0x00, 0x00, 0x00, 0x00, 0x00, 0x00, 0x00, 0x00,
      0x00, 0x00, 0x00, 0xA1, 0x60, 0x08, 0xAB]) := by
  decide

/-- L2.2. -/
theorem test_txFirmware :
    builds (.txFirmware 0 0) fresh = some (.ok, [0xAA, 0xB4, 0x07, 0x00, 0x00, 0x00, 0x00, 0x00, 0x00, 0x00, 0x00, 0x00,
      0x00, 0x00, 0x00, 0xFF, 0xFF, 0x05, 0xAB]) := by
  decide

/-- L2.2. -/
theorem test_txPeriodGet :
    builds (.txPeriodGet 0 0) fresh = some (.ok, [0xAA, 0xB4, 0x08, 0x00, 0x00, 0x00, 0x00, 0x00, 0x00, 0x00, 0x00, 0x00,
      0x00, 0x00, 0x00, 0xFF, 0xFF, 0x06, 0xAB]) := by
  decide

/-- L2.2. -/
theorem test_txPeriodSet :
    builds (.txPeriodSet 30 0 0) fresh = some (.ok, [0xAA, 0xB4, 0x08, 0x01, 0x1E, 0x00, 0x00, 0x00, 0x00, 0x00, 0x00,
      0x00, 0x00, 0x00, 0x00, 0xFF, 0xFF, 0x25, 0xAB]) := by
  decide

/-- E7: 31 builds no frame. -/
theorem test_txPeriodSet_range :
    answers (.txPeriodSet 31 0 0) fresh = some (.outOfRange, none) := by
  decide

/-- L2.3: byte 4 altered. -/
theorem test_rxMeasurement :
    answers (.rxMeasurement 0xD4 0x04 0x3B 0x0A 0x60A1 0x1D) idle = some (.checksumMismatch, none) := by
  decide

/-- V-F29's frame: the ID is cached. -/
theorem test_rxMeasurement_id :
    leaves (.rxMeasurement 0xD4 0x04 0x3A 0x0A 0x1234 0x62) idle = some (false, 0x1234, 0, 0, 0) := by
  decide

/-- L2.3. -/
theorem test_rxAckReportMode :
    answers (.rxAckReportMode 0x01 0x00 0x55 0x60A1 0x59) idle =
      some (.ok, some (.response (.configAck 0x02 1 0 0x60A1))) := by
  decide

/-- L2.3. -/
theorem test_rxAckSleep :
    answers (.rxAckSleep 0x01 0x01 0x00 0x60A1 0x09) idle = some (.ok,
      some (.response (.configAck 0x06 1 1 0x60A1))) := by
  decide

/-- L2.3. -/
theorem test_rxAckPeriod :
    answers (.rxAckPeriod 0x00 0x63 0x00 0x60A1 0x6C) idle =
      some (.ok, some (.response (.configAck 0x08 0 99 0x60A1))) := by
  decide

/-- L2.3. -/
theorem test_rxAckFirmware :
    answers (.rxAckFirmware 0x0F 0x07 0x0A 0x60A1 0x28) idle =
      some (.ok, some (.response (.firmwareAck 15 7 10 0x60A1))) := by
  decide

/-- L2.3. -/
theorem test_rxAckDeviceId :
    answers (.rxAckDeviceId 0x11 0x22 0x33 0x62A2 0x6F) idle = some (.ok, some (.response (.deviceIdAck 0x62A2))) := by
  decide

/-- V-F41 and V-F42: a reserved OP is IllegalOp in a busy state too. -/
theorem test_illegal_op :
    (nextOf (step { mkState .awaitAck true 0x60A1 4 0 0 with inbox := [hostBytes [0x00]] })).map (·.status) =
      some .illegalOp ∧
      (nextOf (step { idle with inbox := [hostBytes [0x3E]] })).map (·.status) = some .illegalOp := by
  decide

/-- R70 and L2.3: an unlisted echo is the decoder's UnknownCommand. -/
theorem test_unlisted_response :
    (nextOf (step { idle with inbox := [rspEvent [0xAA, 0xC5, 0x04, 0x00, 0x00, 0x00, 0xA1, 0x60, 0x05,
      0xAB]] })).map (·.status) =
      some .unknownCommand := by
  decide

/-- E6 and decision D14: with MAX_CYCLES at 11, the twentieth poll resends and the last poll of cycle 11 is Unreachable. -/
theorem test_eleven_cycles :
    ends (.read (.ok []) (.ok 19)) { mkState .boot true 0xFFFF 0 1 10 with params := ⟨20, 2, 11⟩ } = some (.busy, .boot) ∧
      ends (.read (.ok []) (.ok 19)) { mkState .boot true 0xFFFF 0 1 11 with params := ⟨20, 2, 11⟩ } =
        some (.unreachable, .failed) := by
  decide

/-- R72: a mode of 2 is refused under the name of its OP. -/
theorem test_refused_operand :
    refusalOf (step { idle with inbox := [hostBytes [0x25, 0x02]] }) = some (.operandNotFormed 0x25) := by
  decide

/-! ### Witnesses: a state and operands that meet each statement's hypotheses, clause by clause at the boundaries -/

/-- A firmware acknowledgement (L3's `fw`). -/
def fw : List Byte := [0xAA, 0xC5, 0x07, 0x0F, 0x07, 0x0A, 0xA1, 0x60, 0x28, 0xAB]

/-- The measurement of L3 (`meas`). -/
def meas : List Byte := [0xAA, 0xC0, 0xD4, 0x04, 0x3A, 0x0A, 0xA1, 0x60, 0x1D, 0xAB]

/-- A QUERY_DATA frame. -/
def query : List Byte :=
  [0xAA, 0xB4, 0x04, 0x00, 0x00, 0x00, 0x00, 0x00, 0x00, 0x00, 0x00, 0x00, 0x00, 0x00, 0x00, 0xFF, 0xFF, 0x02, 0xAB]

/-- BOOT with counters. -/
def booting (p c : Nat) : State := mkState .boot true 0xFFFF 0 p c

/-- AWAIT_ACK with a read count. -/
def waitingAck (r : Nat) : State := mkState .awaitAck true 0x60A1 r 0 0

/-- AWAIT_MEAS with a read count. -/
def waitingMeas (r : Nat) : State := mkState .awaitMeas false 0x60A1 r 0 0

/-- IDLE with a request outstanding. -/
def idlePending : State := mkState .idle true 0x60A1 0 0 0

theorem witness_ChecksumIsTruncatedSum :
    ((2 : Nat) ≤ 16 ∧ 16 < query.length) ∧ ((18 : Nat) ≤ 18 ∧ 18 < query.length) ∧ ((0 : Nat) ≤ 0 ∧
      0 < query.length) := by
  decide

theorem witness_ChecksumIgnoresByteOrder :
    ([0xD4, 0x04] : List Byte).Perm [0x04, 0xD4] ∧ ([] : List Byte).Perm [] := by decide

theorem witness_SingleByteChangeChangesChecksum :
    ((2 : Nat) ≤ 2 ∧ 2 ≤ 7 ∧ 7 < meas.length ∧ (0xD5 : Byte) ≠ meas.getD 2 0) ∧
      ((2 : Nat) ≤ 7 ∧ 7 ≤ 7 ∧ 7 < meas.length ∧ (0x61 : Byte) ≠ meas.getD 7 0) := by decide

theorem witness_AlteredInteriorByteIsRejected :
    Machine.decode10 fw = .ok (.firmwareAck 15 7 10 0x60A1) ∧ (0x08 : Byte) ≠ fw.getD 2 0 ∧
      (0x29 : Byte) ≠ fw.getD 8 0 := by
  decide

theorem witness_ChecksumSplitsAtAnyByte : (2 : Nat) ≤ 2 ∧ 2 < 3 ∧ 6 < 7 ∧ 7 < meas.length := by decide

theorem witness_ChecksumOperations : busy idle.fsmState = false ∧ busy (booting 0 1).fsmState = true := by decide

theorem witness_AssembleBuildsTheFrame :
    busy fresh.fsmState = false ∧ Memory.wf fresh.txBuf = true ∧ busy (waitingAck 0).fsmState = true := by decide

theorem witness_GetFrameTypesBuildTheirFrames : busy idle.fsmState = false ∧ Memory.wf idle.txBuf = true := by decide

theorem witness_SetFrameTypesBuildTheirFrames :
    busy idle.fsmState = false ∧ Memory.wf idle.txBuf = true ∧ (0x1E : Byte).toNat ≤ 30 ∧
      30 < (0x1F : Byte).toNat := by decide

theorem witness_AssembledFrameParsesBack :
    (0x02 : Byte) ∈ [(0x02 : Byte), 0x04, 0x05, 0x06, 0x07, 0x08] ∧
      (0x08 : Byte) ∈ [(0x02 : Byte), 0x04, 0x05, 0x06, 0x07, 0x08] := by decide

theorem witness_DisassemblerOperations :
    busy idle.fsmState = false ∧ Machine.decode10 fw = .ok (.firmwareAck 15 7 10 0x60A1) ∧
      Machine.parse19 query = .ok ⟨0x04, zeroPayload, 0xFFFF⟩ ∧ busy (booting 1 10).fsmState = true := by decide

theorem witness_FailedDecodeYieldsNothing :
    busy idle.fsmState = false ∧ Machine.decode10 query = .err .badLength ∧ Machine.parse19 meas = .err .badLength ∧
      ∃ t, exec (.read (.ok query) .err) (booting 1 2) = .next t := by
  refine ⟨by decide, by decide, by decide, _, rfl⟩

theorem witness_EveryDecodedChunkCachesItsDeviceId :
    busy (waitingMeas 19).fsmState = true ∧ Machine.decode10 fw = .ok (.firmwareAck 15 7 10 0x60A1) ∧
      Machine.decode10 [] = .err .badLength ∧ ∃ t, exec (.read (.ok fw) (.ok 19)) (waitingMeas 19) = .next t := by
  refine ⟨by decide, by decide, by decide, _, rfl⟩

theorem witness_ResponseFrameTypesDecode : busy (mkState .failed false 0xFFFF 0 0 0).fsmState = false := by decide

theorem witness_GetCommandsSendAndWait :
    idle.fsmState = .idle ∧ idle.pendingRequest = false ∧ Memory.wf idle.txBuf = true := by decide

theorem witness_SetCommandsSendAndWait :
    idle.fsmState = .idle ∧ idle.pendingRequest = false ∧ Memory.wf idle.txBuf = true ∧ (0 : Byte).toNat ≤ 30 ∧
      (30 : Byte).toNat ≤ 30 := by decide

theorem witness_QueryDataSendsAndWaits :
    idle.fsmState = .idle ∧ idle.pendingRequest = false ∧ Memory.wf idle.txBuf = true := by decide

theorem witness_FailedWriteLeavesTheRequestPending :
    isCommand (.setPeriod 30 .err) = true ∧ WriteOutcome.ok 18 ≠ .ok 19 ∧ WriteOutcome.ok 20 ≠ .ok 19 ∧
      periodOutOfRange (.setPeriod 30 .err) = false ∧ idle.fsmState = .idle ∧ idle.pendingRequest = false ∧
      Memory.wf idle.txBuf = true := by decide

theorem witness_SecondRequestIsRejected :
    isCommand (.setPeriod 30 .err) = true ∧ periodOutOfRange (.setPeriod 30 .err) = false ∧
      periodOutOfRange .readMeas = false ∧ idlePending.fsmState = .idle ∧ idlePending.pendingRequest = true := by decide

theorem witness_OutOfRangeIsThePeriodCheckAlone :
    30 < (31 : Byte).toNat ∧ idle.fsmState = .idle ∧
      (nextOf (exec (.setPeriod 31 .err) idlePending)).map (·.status) = some .outOfRange ∧
      (nextOf (exec (.txPeriodSet 31 0 0) fresh)).map (·.status) = some .outOfRange := by decide

theorem witness_WaitOperationsStart :
    idle.fsmState = .idle ∧ idle.pendingRequest = false ∧ idlePending.fsmState = .idle ∧ idlePending.pendingRequest =
      true := by
  decide

theorem witness_AckWaitReadsOneChunk :
    (waitingAck 19).fsmState = .awaitAck ∧ Machine.decode10 fw = .ok (.firmwareAck 15 7 10 0x60A1) ∧
      isAck (.firmwareAck 15 7 10 0x60A1) = true ∧ noAck [] = true ∧
      (waitingAck 19).readCount + 1 = (waitingAck 19).params.maxReads ∧
      (waitingAck 18).readCount + 1 ≠ (waitingAck 18).params.maxReads ∧
      (waitingAck 0).readCount + 1 ≠ (waitingAck 0).params.maxReads := by decide

/-- The measurement frame decodes to a measurement, whichever of its bytes are the high ones. -/
theorem decode10_meas : Machine.decode10 meas = .ok (.measurement (pmRawOf 0xD4 0x04) (pmRawOf 0x3A 0x0A) 0x60A1) := rfl

theorem witness_MeasurementWaitReadsOneChunk :
    (waitingMeas 19).fsmState = .awaitMeas ∧ (∃ p, Machine.decode10 meas = .ok p ∧ isAck p = false) ∧
      noMeasurement fw = true ∧ (waitingMeas 19).readCount + 1 = (waitingMeas 19).params.maxReads ∧
      (waitingMeas 18).readCount + 1 ≠ (waitingMeas 18).params.maxReads ∧
      (waitingMeas 0).readCount + 1 ≠ (waitingMeas 0).params.maxReads :=
  ⟨rfl, ⟨_, decode10_meas, rfl⟩, by decide, rfl, by decide, by decide⟩

theorem witness_BootSendsTheFirmwareRequest :
    fresh.fsmState = .unconnected ∧ Memory.wf fresh.txBuf = true ∧ WriteOutcome.err ≠ .ok 19 := by decide

theorem witness_BootstrapPollsOneChunk :
    (booting 0 10).fsmState = .boot ∧ Memory.wf (booting 0 10).txBuf = true ∧
      Machine.decode10 fw = .ok (.firmwareAck 15 7 10 0x60A1) ∧ isAck (.firmwareAck 15 7 10 0x60A1) = true ∧
      noAck [] = true ∧ (booting 0 10).pollCount + 1 < (booting 0 10).params.pollsPerCycle ∧
      (booting 1 10).params.pollsPerCycle ≤ (booting 1 10).pollCount + 1 ∧
      (booting 1 10).cycleCount = (booting 1 10).params.maxCycles ∧
      (booting 1 9).cycleCount ≠ (booting 1 9).params.maxCycles ∧ WriteOutcome.ok 18 ≠ .ok 19 := by decide

theorem witness_FailedAndMisplacedReads :
    (booting 0 5).fsmState = .boot ∧ (waitingAck 3).fsmState = .awaitAck ∧ (waitingMeas 2).fsmState = .awaitMeas ∧
      busy idle.fsmState = false := by decide

theorem witness_ResetGivesTheResetState : Invariant (booting 1 4) = true ∧ Invariant idlePending = true := by decide

theorem witness_GatingTable :
    acceptedIn .awaitAck fresh.fsmState = false ∧ acceptedIn .awaitAck idle.fsmState = true ∧
      ∃ t, exec .awaitAck idle = .next t := ⟨rfl, rfl, _, rfl⟩

theorem witness_BusyStatesAcceptOnlyReadAndReset :
    busy (waitingAck 0).fsmState = true ∧ ∃ t, exec (.setPeriod 31 .err) (waitingAck 0) = .next t := ⟨rfl, _, rfl⟩

theorem witness_OnlyResetLeavesFailed :
    (mkState .failed false 0xFFFF 0 0 0).fsmState = .failed ∧
      ∃ t, exec (.boot (.ok 19)) (mkState .failed false 0xFFFF 0 0 0) = .next t := ⟨rfl, _, rfl⟩

theorem witness_CommandStatusPriority :
    isCommand (.setPeriod 31 .err) = true ∧ ∃ t, exec (withWrite .err (.setPeriod 31 .err)) idlePending = .next t :=
  ⟨rfl, _, rfl⟩

theorem witness_DeviceIdChangesOnlyByDecodeOrReset :
    (nextOf (exec (.decode10 fw) fresh)).map (·.deviceId) = some 0x60A1 ∧ fresh.deviceId ≠ 0x60A1 ∧
      (nextOf (exec .reset idle)).map (·.deviceId) = some 0xFFFF ∧ idle.deviceId ≠ 0xFFFF := by decide

theorem witness_PendingRequestChangesOnlyWhereTheSpecSays :
    (nextOf (exec (.getSleep .err) idle)).map (·.pendingRequest) = some true ∧ idle.pendingRequest = false ∧
      (nextOf (exec .reset idlePending)).map (·.pendingRequest) = some false ∧ idlePending.pendingRequest =
        true := by decide

theorem witness_TransmitBufferFrame :
    (∃ t, exec (.parse19 query) idle = .next t ∧ writesTxBuf (.parse19 query) = false) ∧
      (∃ t, exec (.setPeriod 31 .err) idle = .next t ∧ isCommand (.setPeriod 31 .err) = true ∧ t.txOut = none) ∧
      (∃ t, exec (.boot .err) idle = .next t ∧ t.txOut = none) ∧
      ∃ t, exec (.read .err .err) (booting 1 1) = .next t ∧ t.txOut = none :=
  ⟨⟨_, rfl, rfl⟩, ⟨_, rfl, rfl, rfl⟩, ⟨_, rfl, rfl⟩, _, rfl, rfl⟩

theorem witness_CountersFrame :
    (nextOf (exec (.boot (.ok 19)) fresh)).map (·.cycleCount) = some 1 ∧ fresh.cycleCount = 0 ∧
      (nextOf (exec (.read (.ok []) .err) (booting 0 1))).map (·.pollCount) = some 1 ∧
      (nextOf (exec (.read (.ok []) .err) (waitingAck 0))).map (·.readCount) = some 1 := by decide

theorem witness_NoSendWhileARequestIsOutstanding :
    (Invariant idle = true ∧ ∃ t, exec (.getSleep (.ok 19)) idle = .next t ∧ t.txOut.isSome = true) ∧
      (Invariant (booting 1 9) = true ∧ ∃ t, exec (.read (.ok []) .err) (booting 1 9) = .next t ∧ t.txOut.isSome = true) :=
  ⟨⟨by decide, _, rfl, rfl⟩, by decide, _, rfl, by decide⟩

theorem witness_EverySentFrameIsBufferedAndParses :
    Memory.wf fresh.txBuf = true ∧ ∃ t f, exec (.boot (.ok 19)) fresh = .next t ∧ t.txOut =
      some f := ⟨rfl, _, _, rfl, rfl⟩

theorem witness_AckWaitExitsCleanly :
    (waitingAck 19).fsmState = .awaitAck ∧
      (nextOf (exec (.read (.ok []) .err) (waitingAck 19))).map (fun t => (t.fsmState, t.status)) =
        some (.idle, .timeout) := by decide

theorem witness_WriteOutcomeMattersOnlyAsSuccess :
    (∃ t, exec (withWrite .err (.getSleep .err)) idlePending = .next t ∧ t.txOut = none) ∧
      (∃ t, exec (withWrite .err (.getSleep .err)) idle = .next t) ∧ (WriteOutcome.err = .ok 19 ↔ WriteOutcome.ok 18 =
        .ok 19) :=
  ⟨⟨_, rfl, rfl⟩, ⟨_, rfl⟩, by decide⟩

theorem witness_EveryReadUsesUpTheBudget :
    Invariant (booting 1 9) = true ∧ busy (booting 1 9).fsmState = true ∧
      (nextOf (exec (.read (.ok []) (.ok 19)) (booting 1 9))).map (fun t => busy t.fsmState) = some true ∧
      Invariant (waitingAck 18) = true ∧ Invariant { booting 0 11 with params := ⟨1, 1, 11⟩ } = true ∧
      (nextOf (exec (.read (.ok []) (.ok 19)) (waitingAck 18))).map (fun t => busy t.fsmState) = some true := by decide

theorem witness_BootstrapGivesUpAfterItsPolls :
    (booting 0 1).params.legal = true ∧ (booting 0 1).fsmState = .boot ∧ (booting 0 1).pollCount = 0 ∧
      (booting 0 1).cycleCount = 1 ∧
      (List.replicate 20 ([] : List Byte)).length =
        (booting 0 1).params.pollsPerCycle * (booting 0 1).params.maxCycles ∧
      (∀ c ∈ List.replicate 20 ([] : List Byte), noAck c = true) ∧
      { booting 0 1 with inbox := readEvents (List.replicate 20 []) }.inbox =
        readEvents (List.replicate 20 []) ++ [] := by
  decide

/-- The least legal bounds meet the hypotheses too: one poll, one cycle, one read. -/
theorem witness_LeastBounds :
    ({ maxReads := 1, pollsPerCycle := 1, maxCycles := 1 } : Params).legal = true ∧
      ([[]] : List (List Byte)).length = 1 * 1 ∧ noAck [] = true ∧ noMeasurement [] = true := by decide

theorem witness_WaitsTimeOutAfterMaxReads :
    (waitingAck 0).params.legal = true ∧ (waitingMeas 0).params.legal = true ∧ (waitingAck 0).readCount = 0 ∧
      (waitingMeas 0).readCount = 0 ∧ (List.replicate 20 fw).length = (waitingMeas 0).params.maxReads ∧
      { waitingMeas 0 with inbox := readEvents (List.replicate 20 fw) }.inbox = readEvents (List.replicate 20 fw) ++ [] ∧
      ((waitingAck 0).fsmState = .awaitAck ∧ ∀ c ∈ List.replicate 20 query, noAck c = true) ∧
      ((waitingMeas 0).fsmState = .awaitMeas ∧ ∀ c ∈ List.replicate 20 fw, noMeasurement c = true) := by decide

theorem witness_EveryStepKeepsTheInvariant :
    Invariant { booting 1 9 with inbox := [hostBytes [0x11, 0x00]] } = true ∧
      ∃ t, step { booting 1 9 with inbox := [hostBytes [0x11, 0x00]] } = .next t := ⟨by decide, _, rfl⟩

theorem witness_EncodeOfDecodeIsTheEvent : decode (hostBytes [0x23, 0xA2, 0x62]) =
  .ok (.setDeviceId 0x62A2 (.ok 19)) := by
  decide

theorem witness_StepRunsTheDecodedInstruction :
    { idle with inbox := [hostBytes [0x12], hostBytes [0x13]] }.inbox = hostBytes [0x12] :: [hostBytes [0x13]] ∧
      decode (hostBytes [0x12]) = .ok .awaitAck ∧ ∃ t, exec .awaitAck idle = .next t := ⟨rfl, rfl, _, rfl⟩

theorem witness_ReservedOpIsIllegalInEveryState :
    (0x06 : Byte) ∉ [(0x01 : Byte), 0x02, 0x03, 0x04, 0x05, 0x10, 0x11, 0x12, 0x13, 0x20, 0x21, 0x22, 0x23, 0x24, 0x25,
      0x26, 0x27, 0x28, 0x3F] ∧
      { waitingAck 4 with inbox := [hostBytes [0x06]] }.inbox =
        { format := .hostOp, bytes := [0x06], w := .ok 19 } :: [] := by
  decide

theorem witness_UnlistedResponseFrameIsAFrameError :
    (∀ i, decode (rspEvent []) ≠ .ok i) ∧ busy idle.fsmState = false ∧
      { idle with inbox := [rspEvent []] }.inbox = { format := .rsp10, bytes := [], w := .ok 19 } :: [] :=
  ⟨fun i h => by
    (rw [show decode (rspEvent []) = .error (.notAResponseFrame []) from rfl] at h; cases h), rfl, rfl⟩

theorem witness_WhereAStepStops :
    idle.inbox = [] ∧ step idle = .fault .noHostEvent ∧
      refusalOf (step { idle with inbox := [cmdEvent []] }) = some .noSuchCommandFrame ∧ 2 ≤ (0x02 : Byte).toNat ∧
      { idle with inbox := [hostBytes [0x21, 0x02]] }.inbox =
        { format := .hostOp, bytes := [0x21, 0x02], w := .ok 19 } :: [] :=
  ⟨rfl, rfl, by decide, by decide, rfl⟩

end Sys2Proof.Tests
end

section
/-! PROOFS. The checksum generator (spec 40_checksum.md): the value of the checksum over any range (R100), and the two
operations that answer it (R101, R102). -/

namespace Sys2Proof.Machine

/-! ### The checksum over a byte range -/

/-- The bytes of a range are summed index by index; an index past the end of the list adds nothing. -/
theorem sum_take_drop_toNat (b : List Byte) (lo n : Nat) :
    (((b.drop lo).take n).map BitVec.toNat).sum = ∑ j ∈ Finset.range n, (b.getD (lo + j) 0).toNat := by
  induction n with
  | zero => simp
  | succ n ih =>
    have hlast : ((b.drop lo)[n]?.toList.map BitVec.toNat).sum = (b.getD (lo + n) 0).toNat := by
      rw [List.getElem?_drop, List.getD_eq_getElem?_getD]
      cases b[lo + n]? <;> simp
    rw [List.take_add_one, List.map_append, List.sum_append, ih, hlast, Finset.sum_range_succ]

/-- R100 as a sum over the indices of the range. -/
theorem toNat_sum8 (b : List Byte) (lo hi : Nat) :
    (sum8 b lo hi).toNat = (∑ i ∈ Finset.Icc lo hi, (b.getD i 0).toNat) % 256 := by
  rw [sum8, BitVec.toNat_ofNat, sum_take_drop_toNat, ← Finset.Ico_add_one_right_eq_Icc, Finset.sum_Ico_eq_sum_range]

/-- Settles O1: the sum that `toNat_sum8` gives, whatever the range. -/
theorem checksumIsTruncatedSum : Obligations.ChecksumIsTruncatedSum :=
  fun b lo hi _ _ => toNat_sum8 b lo hi

/-! ### The operations of the row `pureOp` of R172 -/

/-- A pure operation runs in a non-busy state (R172). -/
theorem gate_pureOp_of_not_busy {run : State → State} {s : State} (h : busy s.fsmState = false) :
    gate .pureOp run s = run s :=
  gate_of_accepts (by simp [accepts, h])

/-- A busy state answers a pure operation with WrongState (R172). -/
theorem gate_pureOp_of_busy {run : State → State} {s : State} (h : busy s.fsmState = true) :
    gate .pureOp run s = raise .wrongState s :=
  gate_of_not_accepts (by simp [accepts, h])

/-- A pure operation whose run only completes the step ends so in a non-busy state. -/
theorem endsWith_of_pureOp {i : Instr} {s : State} {run : State → State} {st : Status} {res : Option Value}
    (hexec : exec i s = .next (gate .pureOp run s)) (hrun : run s = complete st res none none s)
    (hs : busy s.fsmState = false) : EndsWith i s st res := by
  rw [gate_pureOp_of_not_busy hs, hrun] at hexec
  exact hexec

/-- Any pure operation ends with WrongState in a busy state. -/
theorem endsWith_wrongState_of_pureOp {i : Instr} {s : State} {run : State → State}
    (hexec : exec i s = .next (gate .pureOp run s)) (hs : busy s.fsmState = true) : EndsWith i s .wrongState none := by
  rw [gate_pureOp_of_busy hs] at hexec
  exact hexec

theorem exec_cksum19 (f : Frame19) (s : State) :
    exec (.cksum19 f) s = .next (gate .pureOp (checksumOp f.toList 16) s) := rfl

theorem exec_cksum10 (f : Frame10) (s : State) :
    exec (.cksum10 f) s = .next (gate .pureOp (checksumOp f.toList 7) s) := rfl

theorem checksumOp_eq_complete (b : List Byte) (hi : Nat) (s : State) :
    checksumOp b hi s = complete .ok (some (.checksum (sum8 b 2 hi))) none none s := rfl

/-- Settles O6: each operation by the gating of its row, in a non-busy and in a busy state. -/
theorem checksumOperations : Obligations.ChecksumOperations := by
  refine ⟨fun f s hs => ?_, fun f s hs => ?_, fun f s hs => ?_, fun f s hs => ?_⟩
  · exact endsWith_of_pureOp (exec_cksum19 f s) (checksumOp_eq_complete _ _ s) hs
  · exact endsWith_of_pureOp (exec_cksum10 f s) (checksumOp_eq_complete _ _ s) hs
  · exact endsWith_wrongState_of_pureOp (exec_cksum19 f s) hs
  · exact endsWith_wrongState_of_pureOp (exec_cksum10 f s) hs

end Sys2Proof.Machine
end

section
/-! PROOFS. The frame assembler (spec 41_assembler.md): where each part of the 19 bytes stands, and the ASSEMBLE
operation (R110). -/

namespace Sys2Proof.Machine

/-! ### The bytes of a command frame by index -/

section frameBytes

variable (cmd : Byte) (payload : Payload) (stamp : Half) (ck : Byte)

/-- Bytes 0 to 2: the two fixed bytes and the command id (R61). -/
theorem cmdBytes_getD_header {i : Nat} (hi : i < 3) :
    (cmdBytes cmd payload stamp ck).getD i 0 = [0xAA, 0xB4, cmd].getD i 0 := by
  rw [cmdBytes, List.append_assoc, List.getD_append _ _ _ _ hi]

/-- Bytes 3 to 14: the payload (R61). -/
theorem cmdBytes_getD_payload {i : Nat} (hi : i < 12) :
    (cmdBytes cmd payload stamp ck).getD (3 + i) 0 = payload.toList.getD i 0 := by
  rw [cmdBytes, List.append_assoc, List.getD_append_right _ _ _ _ (Nat.le_add_right 3 i),
    List.getD_append _ _ _ _ (by simp; omega)]
  simp

/-- Bytes 15 to 18: the stamp low byte first, the checksum and the tail byte (R42, R61). -/
theorem cmdBytes_getD_trailer (j : Nat) :
    (cmdBytes cmd payload stamp ck).getD (15 + j) 0 = [lowByte stamp, highByte stamp, ck, 0xAB].getD j 0 := by
  rw [cmdBytes, List.getD_append_right _ _ _ _ (by simp)]
  simp

end frameBytes

/-- The checksum byte of an assembled frame is the checksum of bytes 2 to 16 of that same frame (R111). -/
theorem commandFrame_checksum (cmd : Byte) (payload : Payload) (id : Half) :
    (commandFrame cmd payload id).toList.getD 17 0 = sum8 (commandFrame cmd payload id).toList 2 16 := by
  rw [sum8_commandFrame, commandFrame_toList]
  exact cmdBytes_getD_trailer cmd payload id _ 2

/-! ### The operations that assemble a frame -/

/-- An operation that assembles builds the frame of its command id and payload in a non-busy state. -/
theorem buildsFrame_of_assembleOp {i : Instr} {p : Packed} {s : State}
    (hexec : exec i s = .next (gate .pureOp (assembleOp p) s)) (hs : busy s.fsmState = false)
    (hwf : Memory.wf s.txBuf = true) : BuildsFrame i s (commandFrame p.cmd p.payload s.deviceId) := by
  rw [gate_pureOp_of_not_busy hs] at hexec
  exact ⟨_, assemble_writtenWith p.cmd p.payload s hwf, hexec⟩

theorem exec_assemble (cmd : Byte) (payload : Payload) (s : State) :
    exec (.assemble cmd payload) s = .next (gate .pureOp (assembleOp { cmd := cmd, payload := payload }) s) := rfl

/-- Settles O7: the frame built is `commandFrame`, whose bytes are read off part by part; a busy state by the gating. -/
theorem assembleBuildsTheFrame : Obligations.AssembleBuildsTheFrame := by
  refine ⟨fun cmd payload s hs hwf => ?_, fun cmd payload s hs => ?_⟩
  · have hbytes := commandFrame_toList cmd payload s.deviceId
    refine ⟨commandFrame cmd payload s.deviceId, buildsFrame_of_assembleOp (exec_assemble cmd payload s) hs hwf,
      ?head, ?tag, ?commandId, ?tail, fun i hi => ?payload, ?stampLow, ?stampHigh,
      commandFrame_checksum cmd payload s.deviceId⟩ <;> rw [hbytes]
    case head => exact cmdBytes_getD_header _ _ _ _ (i := 0) (by decide)
    case tag => exact cmdBytes_getD_header _ _ _ _ (i := 1) (by decide)
    case commandId => exact cmdBytes_getD_header _ _ _ _ (i := 2) (by decide)
    case payload => exact cmdBytes_getD_payload _ _ _ _ hi
    case stampLow => exact cmdBytes_getD_trailer _ _ _ _ 0
    case stampHigh => exact cmdBytes_getD_trailer _ _ _ _ 1
    case tail => exact cmdBytes_getD_trailer _ _ _ _ 3
  · exact endsWith_wrongState_of_pureOp (exec_assemble cmd payload s) hs

end Sys2Proof.Machine
end

section
/-! PROOFS. The encoding (spec 30_encoding.md): decoding an encoded instruction (R71, R74), the event that a decoded
instruction came from, and the codes of R71, R210 and R25. -/

namespace Sys2Proof.Machine

/-- Settles O51: the round trip of each constructor, by the laws of `Sys2Proof.Laws.RoundTrip`. -/
theorem decodeOfEncodeIsTheInstruction : Obligations.DecodeOfEncodeIsTheInstruction := by
  intro i
  cases i with
  | cksum19 f => exact Laws.RoundTrip.cksum19 f
  | cksum10 f => exact Laws.RoundTrip.cksum10 f
  | assemble cmd payload => exact Laws.RoundTrip.assemble cmd payload
  | decode10 b => exact Laws.RoundTrip.decode10 b
  | parse19 b => exact Laws.RoundTrip.parse19 b
  | boot w => exact Laws.RoundTrip.boot w
  | read r w => exact Laws.RoundTrip.read r w
  | awaitAck => exact Laws.RoundTrip.awaitAck
  | readMeas => exact Laws.RoundTrip.readMeas
  | getReportMode w => exact Laws.RoundTrip.getReportMode w
  | setReportMode m w => exact Laws.RoundTrip.setReportMode m w
  | queryData w => exact Laws.RoundTrip.queryData w
  | setDeviceId id w => exact Laws.RoundTrip.setDeviceId id w
  | getSleep w => exact Laws.RoundTrip.getSleep w
  | setSleep m w => exact Laws.RoundTrip.setSleep m w
  | getFirmware w => exact Laws.RoundTrip.getFirmware w
  | getPeriod w => exact Laws.RoundTrip.getPeriod w
  | setPeriod v w => exact Laws.RoundTrip.setPeriod v w
  | reset => exact Laws.RoundTrip.reset
  | txReportModeGet stamp ck => exact Laws.RoundTrip.txReportModeGet stamp ck
  | txReportModeSet m stamp ck => exact Laws.RoundTrip.txReportModeSet m stamp ck
  | txQueryData stamp ck => exact Laws.RoundTrip.txQueryData stamp ck
  | txSetDeviceId newId stamp ck => exact Laws.RoundTrip.txSetDeviceId newId stamp ck
  | txSleepGet stamp ck => exact Laws.RoundTrip.txSleepGet stamp ck
  | txSleepSet m stamp ck => exact Laws.RoundTrip.txSleepSet m stamp ck
  | txFirmware stamp ck => exact Laws.RoundTrip.txFirmware stamp ck
  | txPeriodGet stamp ck => exact Laws.RoundTrip.txPeriodGet stamp ck
  | txPeriodSet v stamp ck => exact Laws.RoundTrip.txPeriodSet v stamp ck
  | rxMeasurement a b c d id ck => exact Laws.RoundTrip.rxMeasurement a b c d id ck
  | rxAckReportMode tf mv ig id ck => exact Laws.RoundTrip.rxAckReportMode tf mv ig id ck
  | rxAckSleep tf mv ig id ck => exact Laws.RoundTrip.rxAckSleep tf mv ig id ck
  | rxAckPeriod tf mv ig id ck => exact Laws.RoundTrip.rxAckPeriod tf mv ig id ck
  | rxAckFirmware y mo d id ck => exact Laws.RoundTrip.rxAckFirmware y mo d id ck
  | rxAckDeviceId a b c id ck => exact Laws.RoundTrip.rxAckDeviceId a b c id ck

/-! ### The operand forms read back -/

theorem eq_toList_of_asVector {n : Nat} {b : List Byte} {v : Vector Byte n} (h : asVector n b = some v) :
    v.toList = b := by
  unfold asVector at h
  split_ifs at h
  cases h
  rfl

theorem readOutcomeBytes_of_readOutcomeOf {b : List Byte} {r : ReadOutcome} (h : readOutcomeOf b = some r) :
    readOutcomeBytes r = b := by
  cases b with
  | nil => simp [readOutcomeOf] at h
  | cons k chunk =>
    simp only [readOutcomeOf] at h
    split_ifs at h with hok herr
    · cases h
      rw [hok, readOutcomeBytes]
    · cases h
      rw [herr.1, herr.2, readOutcomeBytes]

theorem noOperand_eq_some {i j : Instr} {b : List Byte} : noOperand i b = some j ↔ b = [] ∧ i = j := by
  cases b <;> simp [noOperand]

theorem oneByte_eq_some {b : List Byte} {v : Byte} : oneByte b = some v ↔ b = [v] := by
  match b with
  | [] => simp [oneByte]
  | [_] => simp [oneByte]
  | _ :: _ :: _ => simp [oneByte]

theorem bytes_of_twoBytes {b : List Byte} {id : Half} (h : twoBytes b = some id) : b = [lowByte id, highByte id] := by
  match b, h with
  | [lo, hi], h =>
    cases h
    simp

/-- A byte that spells a mode is the mode's byte (R67, R72). -/
theorem modeOf_eq_some {v : Byte} {m : BitVec 1} : modeOf v = some m ↔ modeByte m = v := by
  constructor
  · intro h
    unfold modeOf at h
    split_ifs at h with h0 h1
    · cases h
      rw [h0]
      rfl
    · cases h
      rw [h1]
      rfl
  · rintro rfl
    exact modeOf_modeByte m

theorem bytes_of_assembleOperands {b : List Byte} {i : Instr} (h : assembleOperands b = some i) :
    ∃ cmd payload, i = .assemble cmd payload ∧ b = cmd :: payload.toList := by
  cases b with
  | nil => simp [assembleOperands] at h
  | cons cmd rest =>
    obtain ⟨payload, hp, rfl⟩ := Option.map_eq_some_iff.mp h
    exact ⟨cmd, payload, rfl, by rw [eq_toList_of_asVector hp]⟩

/-- The encoding of `i` has the format and the bytes of `e`; the write outcome is left out. -/
def Spells (i : Instr) (format : Format) (b : List Byte) : Prop := (encode i).format = format ∧ (encode i).bytes = b

/-- A one-byte mode operand read back (R67, R72). -/
theorem bytes_of_mode {b : List Byte} {m : BitVec 1} (h : (oneByte b).bind modeOf = some m) : b = [modeByte m] := by
  obtain ⟨v, hv, hm⟩ := Option.bind_eq_some_iff.mp h
  rw [oneByte_eq_some.mp hv, modeOf_eq_some.mp hm]

/-- An operation without operands was spelled by its OP byte alone. -/
theorem spells_of_noOperand {op : Byte} {rest : List Byte} {i j : Instr} (h : noOperand j rest = some i)
    (hj : Spells j .hostOp [op]) : Spells i .hostOp (op :: rest) := by
  obtain ⟨rfl, rfl⟩ := noOperand_eq_some.mp h
  exact hj

/-- The OP codes of R71. -/
def hostOpCodes : List Byte :=
  [0x01, 0x02, 0x03, 0x04, 0x05, 0x10, 0x11, 0x12, 0x13, 0x20, 0x21, 0x22, 0x23, 0x24, 0x25, 0x26, 0x27, 0x28, 0x3F]

/-- An OP that is not listed is reserved, whatever follows it (R72). -/
theorem hostOp_eq_none {op : Byte} (h : op ∉ hostOpCodes) (rest : List Byte) (w : WriteOutcome) :
    hostOp op rest w = none := by
  simp only [hostOpCodes, List.mem_cons, List.not_mem_nil, or_false, not_or] at h
  simp only [hostOp, h, if_false]

/-- A host event that spells an operation's operands is that operation's encoding, OP by OP (R71). -/
theorem spells_of_hostOp {op : Byte} {rest : List Byte} {w : WriteOutcome} {i : Instr}
    (h : hostOp op rest w = some (some i)) : Spells i .hostOp (op :: rest) := by
  have hop : op ∈ hostOpCodes := by
    by_contra hop
    rw [hostOp_eq_none hop] at h
    cases h
  simp only [hostOpCodes, List.mem_cons, List.not_mem_nil, or_false] at hop
  rcases hop with rfl | rfl | rfl | rfl | rfl | rfl | rfl | rfl | rfl | rfl | rfl | rfl | rfl | rfl | rfl | rfl | rfl |
    rfl | rfl
  · rw [hostOp_cksum19, Option.some_inj] at h
    obtain ⟨f, hf, rfl⟩ := Option.map_eq_some_iff.mp h
    exact ⟨rfl, congrArg (List.cons _) (eq_toList_of_asVector hf)⟩
  · rw [hostOp_cksum10, Option.some_inj] at h
    obtain ⟨f, hf, rfl⟩ := Option.map_eq_some_iff.mp h
    exact ⟨rfl, congrArg (List.cons _) (eq_toList_of_asVector hf)⟩
  · rw [hostOp_assemble, Option.some_inj] at h
    obtain ⟨cmd, payload, rfl, rfl⟩ := bytes_of_assembleOperands h
    exact ⟨rfl, rfl⟩
  · rw [hostOp_decode10, Option.some_inj] at h
    cases h
    exact ⟨rfl, rfl⟩
  · rw [hostOp_parse19, Option.some_inj] at h
    cases h
    exact ⟨rfl, rfl⟩
  · rw [hostOp_boot, Option.some_inj] at h
    exact spells_of_noOperand h ⟨rfl, rfl⟩
  · rw [hostOp_read, Option.some_inj] at h
    obtain ⟨r, hr, rfl⟩ := Option.map_eq_some_iff.mp h
    exact ⟨rfl, congrArg (List.cons _) (readOutcomeBytes_of_readOutcomeOf hr)⟩
  · rw [hostOp_awaitAck, Option.some_inj] at h
    exact spells_of_noOperand h ⟨rfl, rfl⟩
  · rw [hostOp_readMeas, Option.some_inj] at h
    exact spells_of_noOperand h ⟨rfl, rfl⟩
  · rw [hostOp_getReportMode, Option.some_inj] at h
    exact spells_of_noOperand h ⟨rfl, rfl⟩
  · rw [hostOp_setReportMode, Option.some_inj] at h
    obtain ⟨m, hm, rfl⟩ := Option.map_eq_some_iff.mp h
    exact ⟨rfl, congrArg (List.cons _) (bytes_of_mode hm).symm⟩
  · rw [hostOp_queryData, Option.some_inj] at h
    exact spells_of_noOperand h ⟨rfl, rfl⟩
  · rw [hostOp_setDeviceId, Option.some_inj] at h
    obtain ⟨id, hid, rfl⟩ := Option.map_eq_some_iff.mp h
    exact ⟨rfl, congrArg (List.cons _) (bytes_of_twoBytes hid).symm⟩
  · rw [hostOp_getSleep, Option.some_inj] at h
    exact spells_of_noOperand h ⟨rfl, rfl⟩
  · rw [hostOp_setSleep, Option.some_inj] at h
    obtain ⟨m, hm, rfl⟩ := Option.map_eq_some_iff.mp h
    exact ⟨rfl, congrArg (List.cons _) (bytes_of_mode hm).symm⟩
  · rw [hostOp_getFirmware, Option.some_inj] at h
    exact spells_of_noOperand h ⟨rfl, rfl⟩
  · rw [hostOp_getPeriod, Option.some_inj] at h
    exact spells_of_noOperand h ⟨rfl, rfl⟩
  · rw [hostOp_setPeriod, Option.some_inj] at h
    obtain ⟨v, hv, rfl⟩ := Option.map_eq_some_iff.mp h
    exact ⟨rfl, congrArg (List.cons _) (oneByte_eq_some.mp hv).symm⟩
  · rw [hostOp_reset, Option.some_inj] at h
    exact spells_of_noOperand h ⟨rfl, rfl⟩

/-! ### The frame types read back -/

/-- A frame that matches a row has the row's length (R74). -/
theorem length_of_matchesMask {b mask pattern : List Byte} (h : matchesMask b mask pattern = true) :
    b.length = mask.length := by
  induction b generalizing mask pattern with
  | nil => cases mask <;> cases pattern <;> simp_all [matchesMask]
  | cons v b ih =>
    cases mask <;> cases pattern <;> simp only [matchesMask, Bool.and_eq_true, reduceCtorEq] at h
    simp [ih h.2]

/-- A list of 19 bytes with its bytes named. -/
theorem bytes19_cases {b : List Byte} (h : b.length = 19) :
    ∃ b0 b1 b2 b3 b4 b5 b6 b7 b8 b9 b10 b11 b12 b13 b14 b15 b16 b17 b18 : Byte,
      b = [b0, b1, b2, b3, b4, b5, b6, b7, b8, b9, b10, b11, b12, b13, b14, b15, b16, b17, b18] := by
  match b, h with
  | [b0, b1, b2, b3, b4, b5, b6, b7, b8, b9, b10, b11, b12, b13, b14, b15, b16, b17, b18], _ =>
    exact ⟨b0, b1, b2, b3, b4, b5, b6, b7, b8, b9, b10, b11, b12, b13, b14, b15, b16, b17, b18, rfl⟩

/-- A list of 10 bytes with its bytes named. -/
theorem bytes10_cases {b : List Byte} (h : b.length = 10) :
    ∃ b0 b1 b2 b3 b4 b5 b6 b7 b8 b9 : Byte, b = [b0, b1, b2, b3, b4, b5, b6, b7, b8, b9] := by
  match b, h with
  | [b0, b1, b2, b3, b4, b5, b6, b7, b8, b9], _ => exact ⟨b0, b1, b2, b3, b4, b5, b6, b7, b8, b9, rfl⟩

/-- The mask of a command frame type covers 19 bytes (R68). -/
theorem length_mask_of_mem_commandFrameTypes {t : FrameType} (h : t ∈ commandFrameTypes) :
    (frameRow t).mask.length = 19 := by
  revert t
  decide

/-- The mask of a response frame type covers 10 bytes (R69). -/
theorem length_mask_of_mem_responseFrameTypes {t : FrameType} (h : t ∈ responseFrameTypes) :
    (frameRow t).mask.length = 10 := by
  revert t
  decide

/-- The command frame built from the bytes a row leaves free has the bytes it was built from (R68, R74). -/
theorem spells_of_buildCommandFrame {t : FrameType} {b : List Byte} {i : Instr} (hlen : b.length = 19)
    (ht : ofType t b = true) (h : buildCommandFrame t b = some i) : Spells i .cmd19 b := by
  obtain ⟨b0, b1, b2, b3, b4, b5, b6, b7, b8, b9, b10, b11, b12, b13, b14, b15, b16, b17, b18, rfl⟩ :=
    bytes19_cases hlen
  cases t <;> simp only [buildCommandFrame, Option.some_inj, Option.map_eq_some_iff, modeOf_eq_some, reduceCtorEq] at h
  case txReportModeGet =>
    subst h
    simp_all [ofType_txReportModeGet, Spells, encode, commandEvent, cmdBytes, zeroPayload, fieldAt]
  case txReportModeSet =>
    obtain ⟨m, hm, rfl⟩ := h
    simp_all [ofType_txReportModeSet, Spells, encode, commandEvent, cmdBytes, setPayload, fieldAt]
  case txQueryData =>
    subst h
    simp_all [ofType_txQueryData, Spells, encode, commandEvent, cmdBytes, zeroPayload, fieldAt]
  case txSetDeviceId =>
    subst h
    simp_all [ofType_txSetDeviceId, Spells, encode, commandEvent, cmdBytes, newIdPayload, fieldAt]
  case txSleepGet =>
    subst h
    simp_all [ofType_txSleepGet, Spells, encode, commandEvent, cmdBytes, zeroPayload, fieldAt]
  case txSleepSet =>
    obtain ⟨m, hm, rfl⟩ := h
    simp_all [ofType_txSleepSet, Spells, encode, commandEvent, cmdBytes, setPayload, fieldAt]
  case txFirmware =>
    subst h
    simp_all [ofType_txFirmware, Spells, encode, commandEvent, cmdBytes, zeroPayload, fieldAt]
  case txPeriodGet =>
    subst h
    simp_all [ofType_txPeriodGet, Spells, encode, commandEvent, cmdBytes, zeroPayload, fieldAt]
  case txPeriodSet =>
    subst h
    simp_all [ofType_txPeriodSet, Spells, encode, commandEvent, cmdBytes, setPayload, fieldAt]

/-- The response frame built from the bytes a row leaves free has the bytes it was built from (R69, R74). -/
theorem spells_of_buildResponseFrame {t : FrameType} {b : List Byte} {i : Instr} (hlen : b.length = 10)
    (ht : ofType t b = true) (h : buildResponseFrame t b = some i) : Spells i .rsp10 b := by
  obtain ⟨b0, b1, b2, b3, b4, b5, b6, b7, b8, b9, rfl⟩ := bytes10_cases hlen
  cases t <;> simp only [buildResponseFrame, Option.some_inj, reduceCtorEq] at h <;> subst h
  case rxMeasurement => simp_all [ofType_rxMeasurement, Spells, encode, responseEvent, rspBytes, fieldAt]
  case rxAckReportMode => simp_all [ofType_rxAckReportMode, Spells, encode, responseEvent, rspBytes, fieldAt]
  case rxAckSleep => simp_all [ofType_rxAckSleep, Spells, encode, responseEvent, rspBytes, fieldAt]
  case rxAckPeriod => simp_all [ofType_rxAckPeriod, Spells, encode, responseEvent, rspBytes, fieldAt]
  case rxAckFirmware => simp_all [ofType_rxAckFirmware, Spells, encode, responseEvent, rspBytes, fieldAt]
  case rxAckDeviceId => simp_all [ofType_rxAckDeviceId, Spells, encode, responseEvent, rspBytes, fieldAt]

/-! ### The decoder by format -/

theorem decodeHostOp_eq_ok {b : List Byte} {w : WriteOutcome} {i : Instr} :
    decodeHostOp b w = .ok i ↔ ∃ op rest, b = op :: rest ∧ hostOp op rest w = some (some i) := by
  cases b with
  | nil => simp [decodeHostOp]
  | cons op rest =>
    rcases h : hostOp op rest w with _ | _ | j <;> simp [decodeHostOp, h]

/-- What a search for a frame type and the build of its instruction gives is of that type's length and row. -/
theorem of_find_bind_build {types : List FrameType} {b : List Byte} {i : Instr}
    {build : FrameType → List Byte → Option Instr} {n : Nat} (hlen : ∀ t ∈ types, (frameRow t).mask.length = n)
    (h : (types.find? (fun t => ofType t b)).bind (fun t => build t b) = some i) :
    ∃ t, b.length = n ∧ ofType t b = true ∧ build t b = some i := by
  obtain ⟨t, hfind, hbuild⟩ := Option.bind_eq_some_iff.mp h
  have ht : ofType t b = true := List.find?_some (p := fun t => ofType t b) hfind
  exact ⟨t, (length_of_matchesMask ht).trans (hlen t (List.mem_of_find?_eq_some hfind)), ht, hbuild⟩

theorem spells_of_decodeCommandFrame {b : List Byte} {i : Instr} (h : decodeCommandFrame b = .ok i) :
    Spells i .cmd19 b := by
  unfold decodeCommandFrame at h
  split at h
  · next j hj =>
    cases h
    obtain ⟨t, hb, ht, hbuild⟩ := of_find_bind_build (fun t => length_mask_of_mem_commandFrameTypes) hj
    exact spells_of_buildCommandFrame hb ht hbuild
  · cases h

theorem spells_of_decodeResponseFrame {b : List Byte} {i : Instr} (h : decodeResponseFrame b = .ok i) :
    Spells i .rsp10 b := by
  unfold decodeResponseFrame at h
  split at h
  · next j hj =>
    cases h
    obtain ⟨t, hb, ht, hbuild⟩ := of_find_bind_build (fun t => length_mask_of_mem_responseFrameTypes) hj
    exact spells_of_buildResponseFrame hb ht hbuild
  · cases h

/-- Settles O52: by the format of the event, each read back by the lemma of its decoder. -/
theorem encodeOfDecodeIsTheEvent : Obligations.EncodeOfDecodeIsTheEvent := by
  intro ⟨format, b, w⟩ i h
  cases format with
  | hostOp =>
    obtain ⟨op, rest, rfl, hop⟩ := decodeHostOp_eq_ok.mp h
    exact spells_of_hostOp hop
  | cmd19 => exact spells_of_decodeCommandFrame h
  | rsp10 => exact spells_of_decodeResponseFrame h

/-! ### The listed codes -/

/-- Settles O53: the first byte of each encoding. -/
theorem hostOperationCodes : Obligations.HostOperationCodes :=
  fun _ _ _ _ _ _ _ _ _ => rfl

/-- Settles O54: the decoder run on the four events. -/
theorem sampleEventsDecode : Obligations.SampleEventsDecode :=
  ⟨rfl, rfl, rfl, rfl⟩

/-- Settles O55: the decoder's rows of the three OP codes, whatever the write outcome. -/
theorem checksumAndAssembleEventsDecode : Obligations.ChecksumAndAssembleEventsDecode :=
  ⟨fun f _ => decode_of_hostOp ((hostOp_cksum19 _ _).trans (by rw [asVector_toList, Option.map_some])),
    fun f _ => decode_of_hostOp ((hostOp_cksum10 _ _).trans (by rw [asVector_toList, Option.map_some])),
    fun cmd payload _ => decode_of_hostOp
      ((hostOp_assemble _ _).trans (by rw [assembleOperands, asVector_toList, Option.map_some]))⟩

/-- The status that stands at a code's place in R210's list. -/
def statusOfCode (c : Byte) : Option Status :=
  [Status.ok, .busy, .badLength, .badFraming, .checksumMismatch, .unknownCommand, .timeout, .outOfRange, .unreachable,
    .ioError, .requestPending, .wrongState, .illegalOp][c.toNat]?

/-- The state that stands at an encoding's place in R25's list. -/
def fsmStateOfCode (c : BitVec 3) : Option FsmState :=
  [FsmState.unconnected, .boot, .idle, .awaitAck, .awaitMeas, .failed][c.toNat]?

theorem statusOfCode_code (a : Status) : statusOfCode a.code = some a := by
  cases a <;> rfl

theorem fsmStateOfCode_code (a : FsmState) : fsmStateOfCode a.code = some a := by
  cases a <;> rfl

/-- Settles O60: the two tables by evaluation; no two codes are alike because each is read back by its place. -/
theorem codesAreTheSpecs : Obligations.CodesAreTheSpecs := by
  refine ⟨rfl, rfl, fun a b h => ?_, fun a b h => ?_⟩
  · exact Option.some_inj.mp (by rw [← statusOfCode_code a, h, statusOfCode_code b])
  · exact Option.some_inj.mp (by rw [← fsmStateOfCode_code a, h, fsmStateOfCode_code b])

end Sys2Proof.Machine
end

section
/-! PROOFS. What one instruction can do, said once: the shared operation it runs, in which states that operation is
accepted (spec 43_sync_fsm.md R172), and every end the operation can come to. The statements about every instruction
are read off these ends. -/

namespace Sys2Proof.Machine

/-! ### The operation an instruction runs -/

/-- The shared operations, each with what an instruction hands to it. -/
inductive Op where
  | checksum (b : List Byte) (hi : Nat)
  | assemble (p : Packed)
  | assemblePeriod (v : Byte)
  | decode (r : DecodeOutcome)
  | parse (r : ParseOutcome)
  | boot (w : WriteOutcome)
  | read (r : ReadOutcome) (w : WriteOutcome)
  | awaitAck
  | readMeas
  | command (p : Packed) (valid : Bool) (w : WriteOutcome)
  | reset

/-- The operation of each instruction. -/
def opOf : Instr → Op
  | .cksum19 f => .checksum f.toList 16
  | .cksum10 f => .checksum f.toList 7
  | .assemble cmd payload => .assemble { cmd := cmd, payload := payload }
  | .decode10 b => .decode (decode10 b)
  | .parse19 b => .parse (parse19 b)
  | .boot w => .boot w
  | .read r w => .read r w
  | .awaitAck => .awaitAck
  | .readMeas => .readMeas
  | .getReportMode w => .command packReportModeGet true w
  | .setReportMode m w => .command (packReportModeSet m) true w
  | .queryData w => .command packQueryData true w
  | .setDeviceId id w => .command (packSetDeviceId id) true w
  | .getSleep w => .command packSleepGet true w
  | .setSleep m w => .command (packSleepSet m) true w
  | .getFirmware w => .command packFirmware true w
  | .getPeriod w => .command packPeriodGet true w
  | .setPeriod v w => .command (packPeriodSet v) (periodOk v) w
  | .reset => .reset
  | .txReportModeGet _ _ => .assemble packReportModeGet
  | .txReportModeSet m _ _ => .assemble (packReportModeSet m)
  | .txQueryData _ _ => .assemble packQueryData
  | .txSetDeviceId newId _ _ => .assemble (packSetDeviceId newId)
  | .txSleepGet _ _ => .assemble packSleepGet
  | .txSleepSet m _ _ => .assemble (packSleepSet m)
  | .txFirmware _ _ => .assemble packFirmware
  | .txPeriodGet _ _ => .assemble packPeriodGet
  | .txPeriodSet v _ _ => .assemblePeriod v
  | .rxMeasurement a b c d id ck => .decode (decodeTyped (rspBytes 0xC0 a b c d id ck) (measurementOf a b c d id))
  | .rxAckReportMode tf mv ig id ck =>
    .decode (decodeTyped (rspBytes 0xC5 0x02 tf mv ig id ck) (reportModeAckOf tf mv id))
  | .rxAckSleep tf mv ig id ck => .decode (decodeTyped (rspBytes 0xC5 0x06 tf mv ig id ck) (sleepAckOf tf mv id))
  | .rxAckPeriod tf mv ig id ck => .decode (decodeTyped (rspBytes 0xC5 0x08 tf mv ig id ck) (periodAckOf tf mv id))
  | .rxAckFirmware y mo d id ck => .decode (decodeTyped (rspBytes 0xC5 0x07 y mo d id ck) (firmwareAckOf y mo d id))
  | .rxAckDeviceId a b c id ck => .decode (decodeTyped (rspBytes 0xC5 0x05 a b c id ck) (deviceIdAckOf id))

/-- The state an operation leaves. -/
def Op.run : Op → State → State
  | .checksum b hi => gate .pureOp (checksumOp b hi)
  | .assemble p => gate .pureOp (assembleOp p)
  | .assemblePeriod v => gate .pureOp (assemblePeriodOp v)
  | .decode r => gate .pureOp (decodeOp r)
  | .parse r => gate .pureOp (parseOp r)
  | .boot w => gate .bootOp (bootOp w)
  | .read r w => readOp r w
  | .awaitAck => gate .idleOp awaitAckOp
  | .readMeas => gate .idleOp readMeasOp
  | .command p valid w => gate .idleOp (Machine.command p valid w)
  | .reset => resetOp

/-- Every instruction is a run of its operation, and answers a next state. -/
theorem exec_eq_run (i : Instr) (s : State) : exec i s = .next ((opOf i).run s) := by
  cases i <;> rfl

theorem exec_eq_next_iff {i : Instr} {s t : State} : exec i s = .next t ↔ (opOf i).run s = t := by
  rw [exec_eq_run, Host.Outcome.next.injEq]

/-- Settles O33: the state its operation leaves. -/
theorem everyInstructionCompletes : Obligations.EveryInstructionCompletes :=
  fun i s => ⟨_, exec_eq_run i s⟩

/-! ### The operations named by their instructions -/

theorem opOf_eq_boot {i : Instr} {w : WriteOutcome} : opOf i = .boot w ↔ i = .boot w := by
  cases i <;> simp [opOf]

theorem opOf_eq_read {i : Instr} {r : ReadOutcome} {w : WriteOutcome} : opOf i = .read r w ↔ i = .read r w := by
  cases i <;> simp [opOf]

theorem opOf_eq_awaitAck {i : Instr} : opOf i = .awaitAck ↔ i = .awaitAck := by
  cases i <;> simp [opOf]

theorem opOf_eq_readMeas {i : Instr} : opOf i = .readMeas ↔ i = .readMeas := by
  cases i <;> simp [opOf]

theorem opOf_eq_reset {i : Instr} : opOf i = .reset ↔ i = .reset := by
  cases i <;> simp [opOf]

/-- Only TX.PERIOD.SET assembles behind the range check (R120). -/
theorem opOf_eq_assemblePeriod {i : Instr} {v : Byte} :
    opOf i = .assemblePeriod v ↔ ∃ stamp ck, i = .txPeriodSet v stamp ck := by
  cases i <;> simp [opOf]

/-- The command operations are the ones that run the command template (R176). -/
theorem isCommand_iff {i : Instr} : isCommand i = true ↔ ∃ p valid w, opOf i = .command p valid w := by
  cases i <;> simp [isCommand, opOf]

/-- What `valid` says in the command template: the period is in range (R120, R185). -/
theorem periodOutOfRange_of_opOf {i : Instr} {p : Packed} {valid : Bool} {w : WriteOutcome}
    (h : opOf i = .command p valid w) : periodOutOfRange i = !valid := by
  cases i <;> simp only [opOf, Op.command.injEq, reduceCtorEq] at h <;> obtain ⟨-, rfl, -⟩ := h
  case setPeriod => simp [periodOutOfRange, periodOk, ← decide_not]
  all_goals rfl

/-- The range check of the command template fails for no command but SET_PERIOD (R185). -/
theorem eq_setPeriod_of_invalid {i : Instr} {p : Packed} {w : WriteOutcome} (h : opOf i = .command p false w) :
    ∃ v, i = .setPeriod v w ∧ periodOk v = false := by
  cases i <;> simp only [opOf, Op.command.injEq, reduceCtorEq, false_and, and_false] at h
  case setPeriod v w' =>
    obtain ⟨-, hv, rfl⟩ := h
    exact ⟨v, rfl, hv⟩

/-- The commands' ids stand in the dispatcher table (R63). -/
theorem commandIds_contains_cmd {i : Instr} {p : Packed} {valid : Bool} {w : WriteOutcome}
    (h : opOf i = .command p valid w) : commandIds.contains p.cmd = true := by
  cases i <;> simp only [opOf, Op.command.injEq, reduceCtorEq] at h <;> obtain ⟨rfl, -, -⟩ := h <;> rfl

/-- The commands that can change the flag are the configuration commands (R22, R121). -/
theorem writesPending_of_opOf {i : Instr} {p : Packed} {valid : Bool} {w : WriteOutcome}
    (h : opOf i = .command p valid w) : writesPending i = isConfig p.cmd := by
  cases i <;> simp only [opOf, Op.command.injEq, reduceCtorEq] at h <;> obtain ⟨rfl, -, -⟩ := h <;> rfl

/-! ### In which states an operation is accepted -/

/-- The gating table of R172 by operation. -/
def Op.accepted : Op → FsmState → Bool
  | .checksum _ _, f => !busy f
  | .assemble _, f => !busy f
  | .assemblePeriod _, f => !busy f
  | .decode _, f => !busy f
  | .parse _, f => !busy f
  | .boot _, f => f == .unconnected
  | .read _ _, f => busy f
  | .awaitAck, f => f == .idle
  | .readMeas, f => f == .idle
  | .command _ _ _, f => f == .idle
  | .reset, _ => true

/-- The table by instruction is the table by operation. -/
theorem acceptedIn_eq (i : Instr) (f : FsmState) : acceptedIn i f = (opOf i).accepted f := by
  cases i <;> cases f <;> rfl

theorem readOp_of_not_busy {s : State} (h : busy s.fsmState = false) (r : ReadOutcome) (w : WriteOutcome) :
    readOp r w s = raise .wrongState s := by
  cases hf : s.fsmState <;> simp_all [readOp, busy]

/-- An operation the state does not accept is WrongState (R172, R217). -/
theorem run_of_not_accepted {o : Op} {s : State} (h : o.accepted s.fsmState = false) :
    o.run s = raise .wrongState s := by
  cases o with
  | read r w => exact readOp_of_not_busy h r w
  | reset => cases h
  | _ => exact gate_of_not_accepts h

/-- A busy state accepts READ and RESET alone (R172, R249). -/
theorem accepted_of_busy {o : Op} {f : FsmState} (hf : busy f = true) (h : o.accepted f = true) :
    (∃ r w, o = .read r w) ∨ o = .reset := by
  cases f <;> cases o <;> simp_all [Op.accepted, busy]

/-! ### Every end of an operation -/

/-- `Leads s o t`: from `s` the operation `o` ends in `t`, by one of the ends the spec gives it. Each constructor names
one end, with the conditions under which it is reached. -/
inductive Leads (s : State) : Op → State → Prop
  /-- R172, R217. -/
  | refused {o : Op} (hacc : o.accepted s.fsmState = false) : Leads s o (raise .wrongState s)
  /-- R101, R102. -/
  | summed {b : List Byte} {hi : Nat} (hs : busy s.fsmState = false) : Leads s (.checksum b hi) (checksumOp b hi s)
  /-- R110, R112 to R119. -/
  | assembled {p : Packed} (hs : busy s.fsmState = false) : Leads s (.assemble p) (assembleOp p s)
  /-- R120. -/
  | assembledPeriod {v : Byte} (hs : busy s.fsmState = false) (hv : periodOk v = true) :
    Leads s (.assemblePeriod v) (assembleOp (packPeriodSet v) s)
  /-- R120, R213. -/
  | unassembledPeriod {v : Byte} (hs : busy s.fsmState = false) (hv : periodOk v = false) :
    Leads s (.assemblePeriod v) (raise .outOfRange s)
  /-- R140, R142. -/
  | decoded {p : ParsedResponse} (hs : busy s.fsmState = false) :
    Leads s (.decode (.ok p)) (complete .ok (some (.response p)) none none (cacheId (.ok p) s))
  /-- R149. -/
  | undecoded {e : FrameError} (hs : busy s.fsmState = false) : Leads s (.decode (.err e)) (raise e.toStatus s)
  /-- R150. -/
  | parsed {c : ParsedCommand} (hs : busy s.fsmState = false) :
    Leads s (.parse (.ok c)) (complete .ok (some (.command c)) none none s)
  /-- R149, R150. -/
  | unparsed {e : FrameError} (hs : busy s.fsmState = false) : Leads s (.parse (.err e)) (raise e.toStatus s)
  /-- R213. -/
  | outOfRange {p : Packed} {w : WriteOutcome} (hs : s.fsmState = .idle) :
    Leads s (.command p false w) (raise .outOfRange s)
  /-- R175, R216. -/
  | requestPending {p : Packed} {w : WriteOutcome} (hs : s.fsmState = .idle) (hp : s.pendingRequest = true) :
    Leads s (.command p true w) (raise .requestPending s)
  /-- R174, R176. -/
  | sent {p : Packed} {w : WriteOutcome} (hs : s.fsmState = .idle) (hp : s.pendingRequest = false)
    (hw : writeOk w = true) :
    Leads s (.command p true w) (complete .busy none (some (commandFrame p.cmd p.payload s.deviceId)) none
      { (send p.cmd p.payload w s).state with
        fsmState := if p.cmd = 0x04 then .awaitMeas else .awaitAck, readCount := 0 })
  /-- R171, R176. -/
  | unsent {p : Packed} {w : WriteOutcome} (hs : s.fsmState = .idle) (hp : s.pendingRequest = false)
    (hw : writeOk w = false) :
    Leads s (.command p true w) (complete .ioError none (some (commandFrame p.cmd p.payload s.deviceId)) none
      (send p.cmd p.payload w s).state)
  /-- R190. -/
  | booted {w : WriteOutcome} (hs : s.fsmState = .unconnected) (hw : writeOk w = true) :
    Leads s (.boot w) (complete .busy none (some (commandFrame 0x07 zeroPayload s.deviceId)) none
      { (send 0x07 zeroPayload w s).state with fsmState := .boot, cycleCount := 1, pollCount := 0 })
  /-- R190, decision D32. -/
  | unbooted {w : WriteOutcome} (hs : s.fsmState = .unconnected) (hw : writeOk w = false) :
    Leads s (.boot w) (complete .ioError none (some (commandFrame 0x07 zeroPayload s.deviceId)) none
      { (send 0x07 zeroPayload w s).state with pendingRequest := false, fsmState := .failed })
  /-- R186. -/
  | ackWait (hs : s.fsmState = .idle) (hp : s.pendingRequest = true) :
    Leads s .awaitAck (complete .busy none none none { s with fsmState := .awaitAck, readCount := 0 })
  /-- R186, decision D25. -/
  | noAckWait (hs : s.fsmState = .idle) (hp : s.pendingRequest = false) :
    Leads s .awaitAck (complete .ok none none none s)
  /-- R187. -/
  | measWait (hs : s.fsmState = .idle) (hp : s.pendingRequest = false) :
    Leads s .readMeas (complete .busy none none none { s with fsmState := .awaitMeas, readCount := 0 })
  /-- R175, R187. -/
  | noMeasWait (hs : s.fsmState = .idle) (hp : s.pendingRequest = true) :
    Leads s .readMeas (raise .requestPending s)
  /-- R192 in BOOT. -/
  | bootReadErr {w : WriteOutcome} (hs : s.fsmState = .boot) : Leads s (.read .err w) (readErrBoot s)
  /-- R192 in a wait. -/
  | waitReadErr {w : WriteOutcome} (hs : s.fsmState = .awaitAck ∨ s.fsmState = .awaitMeas) :
    Leads s (.read .err w) (readErrWait s)
  /-- R188: an acknowledgement. -/
  | acked {chunk : List Byte} {w : WriteOutcome} {p : ParsedResponse} (hs : s.fsmState = .awaitAck)
    (hd : decode10 chunk = .ok p) (hp : isAck p = true) :
    Leads s (.read (.ok chunk) w) (complete .ok (some (.response p)) none (some (.ok p))
      { cacheId (.ok p) s with pendingRequest := false, fsmState := .idle, readCount := 0 })
  /-- R189: a measurement. -/
  | measured {chunk : List Byte} {w : WriteOutcome} {p : ParsedResponse} (hs : s.fsmState = .awaitMeas)
    (hd : decode10 chunk = .ok p) (hp : isMeasurement p = true) :
    Leads s (.read (.ok chunk) w) (complete .ok (some (.response p)) none (some (.ok p))
      { cacheId (.ok p) s with fsmState := .idle, readCount := 0 })
  /-- R188: the last read of the acknowledgement wait. -/
  | ackTimeout {chunk : List Byte} {w : WriteOutcome} (hs : s.fsmState = .awaitAck) (hno : noAck chunk = true)
    (hc : s.readCount + 1 = s.params.maxReads) :
    Leads s (.read (.ok chunk) w) (complete .timeout none none (some (decode10 chunk))
      { cacheId (decode10 chunk) s with pendingRequest := false, fsmState := .idle, readCount := 0 })
  /-- R189: the last read of the measurement wait. -/
  | measTimeout {chunk : List Byte} {w : WriteOutcome} (hs : s.fsmState = .awaitMeas) (hno : noMeasurement chunk = true)
    (hc : s.readCount + 1 = s.params.maxReads) :
    Leads s (.read (.ok chunk) w) (complete .timeout none none (some (decode10 chunk))
      { cacheId (decode10 chunk) s with fsmState := .idle, readCount := 0 })
  /-- R188, R189: a read that is counted. -/
  | counted {chunk : List Byte} {w : WriteOutcome}
    (hs : s.fsmState = .awaitAck ∧ noAck chunk = true ∨ s.fsmState = .awaitMeas ∧ noMeasurement chunk = true)
    (hc : s.readCount + 1 ≠ s.params.maxReads) :
    Leads s (.read (.ok chunk) w) (complete .busy none none (some (decode10 chunk))
      { cacheId (decode10 chunk) s with readCount := s.readCount + 1 })
  /-- R191: an acknowledgement. -/
  | connected {chunk : List Byte} {w : WriteOutcome} {p : ParsedResponse} (hs : s.fsmState = .boot)
    (hd : decode10 chunk = .ok p) (hp : isAck p = true) :
    Leads s (.read (.ok chunk) w) (complete .ok (some (.response p)) none (some (.ok p))
      (leaveBoot .idle (cacheId (.ok p) s)))
  /-- R191: a failed poll within the cycle. -/
  | polled {chunk : List Byte} {w : WriteOutcome} (hs : s.fsmState = .boot) (hno : noAck chunk = true)
    (hc : s.pollCount + 1 < s.params.pollsPerCycle) :
    Leads s (.read (.ok chunk) w) (complete .busy none none (some (decode10 chunk))
      { cacheId (decode10 chunk) s with pollCount := s.pollCount + 1 })
  /-- R191: the last failed poll of the last cycle. -/
  | gaveUp {chunk : List Byte} {w : WriteOutcome} (hs : s.fsmState = .boot) (hno : noAck chunk = true)
    (hc : s.params.pollsPerCycle ≤ s.pollCount + 1) (hl : s.cycleCount = s.params.maxCycles) :
    Leads s (.read (.ok chunk) w) (complete .unreachable none none (some (decode10 chunk))
      (leaveBoot .failed (cacheId (decode10 chunk) s)))
  /-- R191: the last failed poll of an earlier cycle, the resend written. -/
  | resent {chunk : List Byte} {w : WriteOutcome} (hs : s.fsmState = .boot) (hno : noAck chunk = true)
    (hc : s.params.pollsPerCycle ≤ s.pollCount + 1) (hl : s.cycleCount ≠ s.params.maxCycles) (hw : writeOk w = true) :
    Leads s (.read (.ok chunk) w) (complete .busy none
      (some (commandFrame 0x07 zeroPayload (cacheId (decode10 chunk) s).deviceId)) (some (decode10 chunk))
      { (send 0x07 zeroPayload w { cacheId (decode10 chunk) s with pendingRequest := false }).state with
        cycleCount := s.cycleCount + 1, pollCount := 0 })
  /-- R191, decision D32: the resend not written. -/
  | unresent {chunk : List Byte} {w : WriteOutcome} (hs : s.fsmState = .boot) (hno : noAck chunk = true)
    (hc : s.params.pollsPerCycle ≤ s.pollCount + 1) (hl : s.cycleCount ≠ s.params.maxCycles)
    (hw : writeOk w = false) :
    Leads s (.read (.ok chunk) w) (complete .ioError none
      (some (commandFrame 0x07 zeroPayload (cacheId (decode10 chunk) s).deviceId)) (some (decode10 chunk))
      (leaveBoot .failed (send 0x07 zeroPayload w { cacheId (decode10 chunk) s with pendingRequest := false }).state))
  /-- R240. -/
  | reset : Leads s .reset (resetOp s)

theorem noAck_iff {chunk : List Byte} : noAck chunk = true ↔ awaited isAck (decode10 chunk) = none := by
  rw [noAck, Option.isNone_iff_eq_none]

theorem noMeasurement_iff {chunk : List Byte} :
    noMeasurement chunk = true ↔ awaited isMeasurement (decode10 chunk) = none := by
  rw [noMeasurement, Option.isNone_iff_eq_none]

/-- The ends of a command in IDLE (R176). -/
theorem leads_command {s : State} (hs : s.fsmState = .idle) (p : Packed) (valid : Bool) (w : WriteOutcome) :
    Leads s (.command p valid w) (command p valid w s) := by
  rcases command_cases p valid w s with ⟨rfl, h⟩ | ⟨rfl, hp, h⟩ | ⟨rfl, hp, hw, h⟩ | ⟨rfl, hp, hw, h⟩ <;> rw [h]
  · exact .outOfRange hs
  · exact .requestPending hs hp
  · exact .sent hs hp hw
  · exact .unsent hs hp hw

/-- The ends of BOOT in UNCONNECTED (R190). -/
theorem leads_boot {s : State} (hs : s.fsmState = .unconnected) (w : WriteOutcome) : Leads s (.boot w) (bootOp w s) := by
  rcases bootOp_cases w s with ⟨hw, h⟩ | ⟨hw, h⟩ <;> rw [h]
  · exact .booted hs hw
  · exact .unbooted hs hw

/-- The ends of a READ in AWAIT_ACK (R188). -/
theorem leads_readAwaitAck {s : State} (hs : s.fsmState = .awaitAck) (chunk : List Byte) (w : WriteOutcome) :
    Leads s (.read (.ok chunk) w) (readAwaitAck chunk s) := by
  rcases readAwaitAck_cases chunk s with ⟨p, hd, hp, h⟩ | ⟨hno, h⟩ <;> rw [h]
  · exact .acked hs hd hp
  · rcases failedRead_cases false (decode10 chunk) (cacheId (decode10 chunk) s) with ⟨hc, h⟩ | ⟨hc, h⟩ <;> rw [h] <;>
      rw [cacheId_readCount, cacheId_params] at hc
    · exact .ackTimeout hs (noAck_iff.mpr hno) hc
    · rw [cacheId_readCount]
      exact .counted (.inl ⟨hs, noAck_iff.mpr hno⟩) hc

/-- The ends of a READ in AWAIT_MEAS (R189). -/
theorem leads_readAwaitMeas {s : State} (hs : s.fsmState = .awaitMeas) (chunk : List Byte) (w : WriteOutcome) :
    Leads s (.read (.ok chunk) w) (readAwaitMeas chunk s) := by
  rcases readAwaitMeas_cases chunk s with ⟨p, hd, hp, h⟩ | ⟨hno, h⟩ <;> rw [h]
  · exact .measured hs hd hp
  · rw [← cacheId_pendingRequest (decode10 chunk) s]
    rcases failedRead_cases (cacheId (decode10 chunk) s).pendingRequest (decode10 chunk) (cacheId (decode10 chunk) s)
      with ⟨hc, h⟩ | ⟨hc, h⟩ <;> rw [h] <;> rw [cacheId_readCount, cacheId_params] at hc
    · exact .measTimeout hs (noMeasurement_iff.mpr hno) hc
    · rw [cacheId_readCount]
      exact .counted (.inr ⟨hs, noMeasurement_iff.mpr hno⟩) hc

/-- The ends of a READ in BOOT (R191). -/
theorem leads_readBoot {s : State} (hs : s.fsmState = .boot) (chunk : List Byte) (w : WriteOutcome) :
    Leads s (.read (.ok chunk) w) (readBoot chunk w s) := by
  rcases readBoot_cases chunk w s with ⟨p, hd, hp, h⟩ | ⟨hno, h⟩ <;> rw [h]
  · exact .connected hs hd hp
  have hno := noAck_iff.mpr hno
  rcases failedPoll_cases w (decode10 chunk) (cacheId (decode10 chunk) s) with ⟨hc, h⟩ | ⟨hc, hl, h⟩ | ⟨hc, hl, h⟩ <;>
    rw [h] <;> rw [cacheId_pollCount, cacheId_params] at hc
  · rw [cacheId_pollCount]
    exact .polled hs hno hc
  · rw [cacheId_cycleCount, cacheId_params] at hl
    exact .gaveUp hs hno (Nat.le_of_not_lt hc) hl
  · rw [cacheId_cycleCount, cacheId_params] at hl
    rcases resend_cases w (decode10 chunk) (cacheId (decode10 chunk) s) with ⟨hw, h⟩ | ⟨hw, h⟩ <;> rw [h]
    · rw [cacheId_cycleCount]
      exact .resent hs hno (Nat.le_of_not_lt hc) hl hw
    · exact .unresent hs hno (Nat.le_of_not_lt hc) hl hw

/-- The ends of a READ in a busy state (R193). -/
theorem leads_read {s : State} (hs : busy s.fsmState = true) (r : ReadOutcome) (w : WriteOutcome) :
    Leads s (.read r w) (readOp r w s) := by
  rcases readOp_cases r w s with ⟨hn, -⟩ | ⟨hf, rfl, h⟩ | ⟨hf, rfl, h⟩ | ⟨chunk, rfl, hf, h⟩ | ⟨chunk, rfl, hf, h⟩ |
    ⟨chunk, rfl, hf, h⟩
  · rw [hs] at hn
    cases hn
  all_goals rw [h]
  · exact .bootReadErr hf
  · exact .waitReadErr hf
  · exact leads_readBoot hf chunk w
  · exact leads_readAwaitAck hf chunk w
  · exact leads_readAwaitMeas hf chunk w

/-- A pure operation is accepted outside the busy states. -/
theorem not_busy_of_accepted {s : State} (h : (!busy s.fsmState) = true) : busy s.fsmState = false :=
  (Bool.not_eq_true' _).mp h

/-- An accepted operation runs to one of its ends. -/
theorem leads_of_accepted {o : Op} {s : State} (h : o.accepted s.fsmState = true) : Leads s o (o.run s) := by
  cases o with
  | checksum b hi =>
    have hs := not_busy_of_accepted h
    rw [Op.run, gate_pureOp_of_not_busy hs]
    exact .summed hs
  | assemble p =>
    have hs := not_busy_of_accepted h
    rw [Op.run, gate_pureOp_of_not_busy hs]
    exact .assembled hs
  | assemblePeriod v =>
    have hs := not_busy_of_accepted h
    rw [Op.run, gate_pureOp_of_not_busy hs, assemblePeriodOp]
    split
    · next hv => exact .assembledPeriod hs hv
    · next hv => exact .unassembledPeriod hs (Bool.eq_false_of_not_eq_true hv)
  | decode r =>
    have hs := not_busy_of_accepted h
    rw [Op.run, gate_pureOp_of_not_busy hs]
    cases r with
    | ok p => exact .decoded hs
    | err e => exact .undecoded hs
  | parse r =>
    have hs := not_busy_of_accepted h
    rw [Op.run, gate_pureOp_of_not_busy hs]
    cases r with
    | ok c => exact .parsed hs
    | err e => exact .unparsed hs
  | boot w =>
    rw [Op.run, gate_of_accepts (c := .bootOp) h]
    exact leads_boot (beq_iff_eq.mp h) w
  | read r w => exact leads_read h r w
  | awaitAck =>
    rw [Op.run, gate_of_accepts (c := .idleOp) h, awaitAckOp]
    split
    · next hp => exact .ackWait (beq_iff_eq.mp h) hp
    · next hp => exact .noAckWait (beq_iff_eq.mp h) (Bool.eq_false_of_not_eq_true hp)
  | readMeas =>
    rw [Op.run, gate_of_accepts (c := .idleOp) h, readMeasOp]
    split
    · next hp => exact .noMeasWait (beq_iff_eq.mp h) hp
    · next hp => exact .measWait (beq_iff_eq.mp h) (Bool.eq_false_of_not_eq_true hp)
  | command p valid w =>
    rw [Op.run, gate_of_accepts (c := .idleOp) h]
    exact leads_command (beq_iff_eq.mp h) p valid w
  | reset => exact .reset

/-- Every run of an operation comes to one of its ends. -/
theorem leads_run (o : Op) (s : State) : Leads s o (o.run s) := by
  cases h : o.accepted s.fsmState
  · rw [run_of_not_accepted h]
    exact .refused h
  · exact leads_of_accepted h

/-- Every next state of an instruction is one of the ends of its operation. -/
theorem leads_of_exec {i : Instr} {s t : State} (h : exec i s = .next t) : Leads s (opOf i) t :=
  exec_eq_next_iff.mp h ▸ leads_run (opOf i) s

/-! ### An end determines the run -/

theorem gate_idleOp_of_idle {run : State → State} {s : State} (hs : s.fsmState = .idle) :
    gate .idleOp run s = run s :=
  gate_of_accepts ((accepts_idleOp _).mpr hs)

theorem gate_bootOp_of_unconnected {run : State → State} {s : State} (hs : s.fsmState = .unconnected) :
    gate .bootOp run s = run s :=
  gate_of_accepts ((accepts_bootOp _).mpr hs)

/-- The end an operation's conditions name is the one it runs to. -/
theorem run_of_leads {o : Op} {s t : State} (h : Leads s o t) : o.run s = t := by
  cases h
  case refused hacc => exact run_of_not_accepted hacc
  case summed hs => exact gate_pureOp_of_not_busy hs
  case assembled hs => exact gate_pureOp_of_not_busy hs
  case assembledPeriod hs hv => rw [Op.run, gate_pureOp_of_not_busy hs, assemblePeriodOp, if_pos hv]
  case unassembledPeriod hs hv => rw [Op.run, gate_pureOp_of_not_busy hs, assemblePeriodOp, hv, if_neg Bool.false_ne_true]
  case decoded hs => exact gate_pureOp_of_not_busy hs
  case undecoded hs => exact gate_pureOp_of_not_busy hs
  case parsed hs => exact gate_pureOp_of_not_busy hs
  case unparsed hs => exact gate_pureOp_of_not_busy hs
  case outOfRange hs => exact gate_idleOp_of_idle hs
  case requestPending hs hp => simp [Op.run, gate_idleOp_of_idle hs, command, hp]
  case sent hs hp hw => simp [Op.run, gate_idleOp_of_idle hs, command, hp, hw]
  case unsent hs hp hw => simp [Op.run, gate_idleOp_of_idle hs, command, hp, hw]
  case booted hs hw => simp [Op.run, gate_bootOp_of_unconnected hs, bootOp, packFirmware, hw]
  case unbooted hs hw => simp [Op.run, gate_bootOp_of_unconnected hs, bootOp, packFirmware, hw]
  case ackWait hs hp => simp [Op.run, gate_idleOp_of_idle hs, awaitAckOp, hp]
  case noAckWait hs hp => simp [Op.run, gate_idleOp_of_idle hs, awaitAckOp, hp]
  case measWait hs hp => simp [Op.run, gate_idleOp_of_idle hs, readMeasOp, hp]
  case noMeasWait hs hp => simp [Op.run, gate_idleOp_of_idle hs, readMeasOp, hp]
  case bootReadErr hs => simp only [Op.run, readOp, hs]
  case waitReadErr hs => rcases hs with hs | hs <;> simp only [Op.run, readOp, hs]
  case acked hs hd hp => simp only [Op.run, readOp, hs, readAwaitAck, hd, awaited, hp, if_true]
  case measured hs hd hp => simp only [Op.run, readOp, hs, readAwaitMeas, hd, awaited, hp, if_true]
  case ackTimeout hs hno hc => simp [Op.run, readOp, hs, readAwaitAck, noAck_iff.mp hno, failedRead, hc]
  case measTimeout hs hno hc =>
    simp [Op.run, readOp, hs, readAwaitMeas, noMeasurement_iff.mp hno, failedRead, hc]
  case counted hs hc =>
    rcases hs with ⟨hs, hno⟩ | ⟨hs, hno⟩
    · simp [Op.run, readOp, hs, readAwaitAck, noAck_iff.mp hno, failedRead, hc]
    · simp [Op.run, readOp, hs, readAwaitMeas, noMeasurement_iff.mp hno, failedRead, hc]
  case connected hs hd hp => simp only [Op.run, readOp, hs, readBoot, hd, awaited, hp, if_true]
  case polled hs hno hc => simp [Op.run, readOp, hs, readBoot, noAck_iff.mp hno, failedPoll, hc]
  case gaveUp hs hno hc hl => simp [Op.run, readOp, hs, readBoot, noAck_iff.mp hno, failedPoll, Nat.not_lt.mpr hc, hl]
  case resent hs hno hc hl hw =>
    simp [Op.run, readOp, hs, readBoot, noAck_iff.mp hno, failedPoll, Nat.not_lt.mpr hc, hl, resend, packFirmware, hw]
  case unresent hs hno hc hl hw =>
    simp [Op.run, readOp, hs, readBoot, noAck_iff.mp hno, failedPoll, Nat.not_lt.mpr hc, hl, resend, packFirmware, hw]
  case reset => rfl

/-- An instruction's next state from the end its conditions name. -/
theorem exec_of_leads {i : Instr} {s t : State} (h : Leads s (opOf i) t) : exec i s = .next t :=
  exec_eq_next_iff.mpr (run_of_leads h)

end Sys2Proof.Machine
end

section
/-! PROOFS. The invariant (spec 10_state.md R34, R24, R40): every end of an operation keeps it, so every step does; the
reset state meets it, and from a state that meets it RESET gives the reset state. -/

namespace Sys2Proof.Machine

/-- The invariant, taken apart. -/
theorem invariant_iff {s : State} :
    Invariant s = true ↔ registersOk s = true ∧ Memory.wf s.txBuf = true ∧ Memory.inTxBuf s.txBuf = true ∧
      s.params.legal = true := by
  simp [Invariant, and_assoc]

/-! ### What a step leaves of the parameters and of the transmit space -/

/-- No operation writes the retry bounds or the host's events (log entries 3 and 12). -/
theorem inbox_params_of_leads {s t : State} {o : Op} (h : Leads s o t) : t.inbox = s.inbox ∧ t.params = s.params := by
  cases h <;> simp [checksumOp, assembleOp, readErrBoot, readErrWait]

theorem assembleOp_txBuf (p : Packed) (s : State) :
    (assembleOp p s).txBuf = Memory.writeBytes s.txBuf 0 (commandFrame p.cmd p.payload s.deviceId).toList := rfl

/-- An operation leaves the transmit space as it was, or with a frame written over `tx_buf`, or cleared (R24). -/
theorem txBuf_of_leads {s t : State} {o : Op} (h : Leads s o t) :
    t.txBuf = s.txBuf ∨ (∃ cmd payload id, t.txBuf = Memory.writeBytes s.txBuf 0 (commandFrame cmd payload id).toList) ∨
      t.txBuf = clearTxBuf s.txBuf := by
  cases h
  case assembled p _ => exact .inr (.inl ⟨_, _, _, assembleOp_txBuf p s⟩)
  case assembledPeriod v _ _ => exact .inr (.inl ⟨_, _, _, assembleOp_txBuf (packPeriodSet v) s⟩)
  case sent p w _ _ _ => exact .inr (.inl ⟨_, _, _, send_txBuf p.cmd p.payload w s⟩)
  case unsent p w _ _ _ => exact .inr (.inl ⟨_, _, _, send_txBuf p.cmd p.payload w s⟩)
  case booted => exact .inr (.inl ⟨0x07, zeroPayload, s.deviceId, by simp⟩)
  case unbooted => exact .inr (.inl ⟨0x07, zeroPayload, s.deviceId, by simp⟩)
  case resent chunk _ _ _ _ _ _ =>
    exact .inr (.inl ⟨0x07, zeroPayload, (cacheId (decode10 chunk) s).deviceId, by simp⟩)
  case unresent chunk _ _ _ _ _ _ =>
    exact .inr (.inl ⟨0x07, zeroPayload, (cacheId (decode10 chunk) s).deviceId, by simp⟩)
  case reset => exact .inr (.inr (resetOp_txBuf s))
  all_goals exact .inl (by simp [checksumOp, readErrBoot, readErrWait])

/-- Every operation keeps the canonical form of the transmit space and its bounds (R40). -/
theorem txBufOk_of_leads {s t : State} {o : Op} (h : Leads s o t) (hwf : Memory.wf s.txBuf = true)
    (hin : Memory.inTxBuf s.txBuf = true) : Memory.wf t.txBuf = true ∧ Memory.inTxBuf t.txBuf = true := by
  rcases txBuf_of_leads h with ht | ⟨cmd, payload, id, ht⟩ | ht <;> rw [ht]
  · exact ⟨hwf, hin⟩
  · exact ⟨Memory.writeBytes_wf _ _ hwf, Memory.writeBytes_inTxBuf _ _ (by rw [commandFrame_length]) hin⟩
  · exact ⟨Memory.writeBytes_wf _ _ hwf, Memory.writeBytes_inTxBuf _ _ (by rw [List.length_replicate]) hin⟩

/-! ### R34's table -/

section table

variable {s : State}

theorem registersOk_of_unconnected (h : s.fsmState = .unconnected) : registersOk s = true ↔
    s.pendingRequest = false ∧ s.readCount = 0 ∧ s.pollCount = 0 ∧ s.cycleCount = 0 := by
  simp [registersOk, h, and_assoc]

theorem registersOk_of_boot (h : s.fsmState = .boot) : registersOk s = true ↔
    s.pendingRequest = true ∧ s.readCount = 0 ∧ s.pollCount < s.params.pollsPerCycle ∧ 1 ≤ s.cycleCount ∧
      s.cycleCount ≤ s.params.maxCycles := by
  simp [registersOk, h, and_assoc]

theorem registersOk_of_idle (h : s.fsmState = .idle) : registersOk s = true ↔
    s.readCount = 0 ∧ s.pollCount = 0 ∧ s.cycleCount = 0 := by
  simp [registersOk, h, and_assoc]

theorem registersOk_of_awaitAck (h : s.fsmState = .awaitAck) : registersOk s = true ↔
    s.pendingRequest = true ∧ s.readCount < s.params.maxReads ∧ s.pollCount = 0 ∧ s.cycleCount = 0 := by
  simp [registersOk, h, and_assoc]

theorem registersOk_of_awaitMeas (h : s.fsmState = .awaitMeas) : registersOk s = true ↔
    s.pendingRequest = false ∧ s.readCount < s.params.maxReads ∧ s.pollCount = 0 ∧ s.cycleCount = 0 := by
  simp [registersOk, h, and_assoc]

theorem registersOk_of_failed (h : s.fsmState = .failed) : registersOk s = true ↔
    s.pendingRequest = false ∧ s.readCount = 0 ∧ s.pollCount = 0 ∧ s.cycleCount = 0 := by
  simp [registersOk, h, and_assoc]

end table

/-- Ending a step writes no register of R34's table. -/
theorem registersOk_complete (st : Status) (res : Option Value) (tx : Option Frame19) (dec : Option DecodeOutcome)
    (s : State) : registersOk (complete st res tx dec s) = registersOk s := rfl

theorem registersOk_raise (st : Status) (s : State) : registersOk (raise st s) = registersOk s := rfl

/-- Caching a device ID writes no register of R34's table. -/
theorem registersOk_cacheId (r : DecodeOutcome) (s : State) : registersOk (cacheId r s) = registersOk s := by
  cases r <;> rfl

theorem registersOk_assembleOp (p : Packed) (s : State) : registersOk (assembleOp p s) = registersOk s := rfl

theorem registersOk_checksumOp (b : List Byte) (hi : Nat) (s : State) :
    registersOk (checksumOp b hi s) = registersOk s := rfl

/-- Every operation keeps R34's table, under legal retry bounds (R6): each end meets the row of the state it ends in,
from the row of the state it began in. -/
theorem registersOk_of_leads {s t : State} {o : Op} (h : Leads s o t) (hlegal : s.params.legal = true)
    (hs : registersOk s = true) : registersOk t = true := by
  obtain ⟨hreads, hpolls, hcycles⟩ : 0 < s.params.maxReads ∧ 0 < s.params.pollsPerCycle ∧ 1 ≤ s.params.maxCycles :=
    (legal_iff _).mp hlegal
  cases h
  case summed => rwa [registersOk_checksumOp]
  case assembled => rwa [registersOk_assembleOp]
  case assembledPeriod => rwa [registersOk_assembleOp]
  case decoded => rwa [registersOk_complete, registersOk_cacheId]
  case parsed => rwa [registersOk_complete]
  case noAckWait => rwa [registersOk_complete]
  case sent p w hf hp hw =>
    obtain ⟨-, hpoll, hcycle⟩ := (registersOk_of_idle hf).mp hs
    by_cases hc : p.cmd = 0x04
    · have hconf : isConfig p.cmd = false := bne_eq_false_iff_eq.mpr hc
      exact (registersOk_of_awaitMeas (if_pos hc)).mpr (by simp [pendingAfterSend, hconf, hp, hreads, hpoll, hcycle])
    · have hconf : isConfig p.cmd = true := bne_iff_ne.mpr hc
      exact (registersOk_of_awaitAck (if_neg hc)).mpr (by simp [pendingAfterSend, hconf, hreads, hpoll, hcycle])
  case unsent hf hp hw =>
    obtain ⟨hread, hpoll, hcycle⟩ := (registersOk_of_idle hf).mp hs
    exact (registersOk_of_idle (by simpa using hf)).mpr (by simp [hread, hpoll, hcycle])
  case booted hf hw =>
    obtain ⟨-, hread, -, -⟩ := (registersOk_of_unconnected hf).mp hs
    exact (registersOk_of_boot rfl).mpr (by simp [hread, pendingAfterSend, isConfig, hpolls, hcycles])
  case unbooted hf hw =>
    obtain ⟨-, hread, hpoll, hcycle⟩ := (registersOk_of_unconnected hf).mp hs
    exact (registersOk_of_failed rfl).mpr (by simp [hread, hpoll, hcycle])
  case ackWait hf hp =>
    obtain ⟨-, hpoll, hcycle⟩ := (registersOk_of_idle hf).mp hs
    exact (registersOk_of_awaitAck rfl).mpr ⟨hp, hreads, hpoll, hcycle⟩
  case measWait hf hp =>
    obtain ⟨-, hpoll, hcycle⟩ := (registersOk_of_idle hf).mp hs
    exact (registersOk_of_awaitMeas rfl).mpr ⟨hp, hreads, hpoll, hcycle⟩
  case bootReadErr hf =>
    obtain ⟨-, hread, -⟩ := (registersOk_of_boot hf).mp hs
    exact (registersOk_of_failed rfl).mpr ⟨rfl, hread, rfl, rfl⟩
  case waitReadErr hf =>
    have hboot : s.pollCount = 0 ∧ s.cycleCount = 0 := hf.elim
      (fun hf => ((registersOk_of_awaitAck hf).mp hs).2.2) (fun hf => ((registersOk_of_awaitMeas hf).mp hs).2.2)
    exact (registersOk_of_idle rfl).mpr ⟨rfl, hboot⟩
  case acked hf hd hp =>
    obtain ⟨-, -, hpoll, hcycle⟩ := (registersOk_of_awaitAck hf).mp hs
    exact (registersOk_of_idle rfl).mpr (by simp [hpoll, hcycle])
  case measured hf hd hp =>
    obtain ⟨-, -, hpoll, hcycle⟩ := (registersOk_of_awaitMeas hf).mp hs
    exact (registersOk_of_idle rfl).mpr (by simp [hpoll, hcycle])
  case ackTimeout hf hno hc =>
    obtain ⟨-, -, hpoll, hcycle⟩ := (registersOk_of_awaitAck hf).mp hs
    exact (registersOk_of_idle rfl).mpr (by simp [hpoll, hcycle])
  case measTimeout hf hno hc =>
    obtain ⟨-, -, hpoll, hcycle⟩ := (registersOk_of_awaitMeas hf).mp hs
    exact (registersOk_of_idle rfl).mpr (by simp [hpoll, hcycle])
  case counted chunk w hf hc =>
    rcases hf with ⟨hf, -⟩ | ⟨hf, -⟩
    · obtain ⟨hp, hread, hpoll, hcycle⟩ := (registersOk_of_awaitAck hf).mp hs
      exact (registersOk_of_awaitAck (by simpa using hf)).mpr
        (by simpa [hp, hpoll, hcycle] using Nat.lt_of_le_of_ne hread hc)
    · obtain ⟨hp, hread, hpoll, hcycle⟩ := (registersOk_of_awaitMeas hf).mp hs
      exact (registersOk_of_awaitMeas (by simpa using hf)).mpr
        (by simpa [hp, hpoll, hcycle] using Nat.lt_of_le_of_ne hread hc)
  case connected hf hd hp =>
    obtain ⟨-, hread, -⟩ := (registersOk_of_boot hf).mp hs
    exact (registersOk_of_idle rfl).mpr (by simp [hread])
  case polled hf hno hc =>
    obtain ⟨hp, hread, -, hfirst, hlast⟩ := (registersOk_of_boot hf).mp hs
    exact (registersOk_of_boot (by simpa using hf)).mpr (by simp [hp, hread, hc, hfirst, hlast])
  case gaveUp hf hno hc hl =>
    obtain ⟨-, hread, -⟩ := (registersOk_of_boot hf).mp hs
    exact (registersOk_of_failed rfl).mpr (by simp [hread])
  case resent hf hno hc hl hw =>
    obtain ⟨-, hread, -, -, hlast⟩ := (registersOk_of_boot hf).mp hs
    have hmore : s.cycleCount < s.params.maxCycles := Nat.lt_of_le_of_ne hlast hl
    exact (registersOk_of_boot (by simpa using hf)).mpr
      (by simp [hread, pendingAfterSend, isConfig, hpolls, hmore])
  case unresent hf hno hc hl hw =>
    obtain ⟨-, hread, -⟩ := (registersOk_of_boot hf).mp hs
    exact (registersOk_of_failed rfl).mpr (by simp [hread])
  case reset => exact (registersOk_of_unconnected rfl).mpr ⟨rfl, rfl, rfl, rfl⟩
  all_goals rwa [registersOk_raise]

/-- Every operation keeps the invariant. -/
theorem invariant_of_leads {s t : State} {o : Op} (h : Leads s o t) (hs : Invariant s = true) :
    Invariant t = true := by
  obtain ⟨hregs, hwf, hin, hlegal⟩ := invariant_iff.mp hs
  obtain ⟨hwf', hin'⟩ := txBufOk_of_leads h hwf hin
  exact invariant_iff.mpr ⟨registersOk_of_leads h hlegal hregs, hwf', hin', (inbox_params_of_leads h).2 ▸ hlegal⟩

/-! ### Steps -/

theorem step_of_inbox_nil {s : State} (h : s.inbox = []) : step s = .fault .noHostEvent := by
  rw [step, h]

/-- A step on an event that decodes runs its instruction (R170). -/
theorem step_of_decode_ok {s : State} {e : Event} {rest : List Event} {i : Instr} (h : s.inbox = e :: rest)
    (he : decode e = .ok i) : step s = exec i (takeEvent rest s) := by
  rw [step, h]
  simp only [he]

/-- A step on an event that does not decode answers it or stops (R70, R72). -/
theorem step_of_decode_error {s : State} {e : Event} {rest : List Event} {err : DecodeError} (h : s.inbox = e :: rest)
    (he : decode e = .error err) : step s = undecodedEvent err (takeEvent rest s) := by
  rw [step, h]
  simp only [he]

/-- A next state of an event that does not decode: IllegalOp, or the decoder's answer (R70, R72). -/
theorem undecodedEvent_next {err : DecodeError} {s t : State} (h : undecodedEvent err s = .next t) :
    t = illegalOp s ∨ ∃ b, Leads s (.decode (decode10 b)) t := by
  cases err with
  | reservedOp op =>
    cases h
    exact .inl rfl
  | notAResponseFrame b => exact .inr ⟨b, leads_of_exec (i := .decode10 b) h⟩
  | operandBytes op => cases h
  | noOp => cases h
  | notACommandFrame => cases h

/-- A next state of a step: the event taken, then an end of an operation, or IllegalOp. -/
theorem step_next {s t : State} (h : step s = .next t) :
    ∃ rest, t = illegalOp (takeEvent rest s) ∨ ∃ o, Leads (takeEvent rest s) o t := by
  cases hin : s.inbox with
  | nil =>
    rw [step_of_inbox_nil hin] at h
    cases h
  | cons e rest =>
    refine ⟨rest, ?_⟩
    cases he : decode e with
    | ok i =>
      rw [step_of_decode_ok hin he] at h
      exact .inr ⟨_, leads_of_exec h⟩
    | error err =>
      rw [step_of_decode_error hin he] at h
      exact (undecodedEvent_next h).imp_right fun ⟨_, hb⟩ => ⟨_, hb⟩

/-- Taking an event writes nothing the invariant reads. -/
theorem invariant_takeEvent (rest : List Event) (s : State) : Invariant (takeEvent rest s) = Invariant s := rfl

theorem invariant_illegalOp (s : State) : Invariant (illegalOp s) = Invariant s := rfl

/-- Settles O49: taking the event keeps the invariant, and so does every end the step can come to. -/
theorem everyStepKeepsTheInvariant : Obligations.EveryStepKeepsTheInvariant := by
  intro s t hs h
  obtain ⟨rest, rfl | ⟨o, ho⟩⟩ := step_next h
  · rwa [invariant_illegalOp, invariant_takeEvent]
  · exact invariant_of_leads ho (by rwa [invariant_takeEvent])

/-! ### Reset -/

/-- Settles O50: the reset values of R34's table, an empty transmit space and the default bounds. -/
theorem resetMeetsTheInvariant : Obligations.ResetMeetsTheInvariant :=
  invariant_iff.mpr ⟨rfl, Memory.wf_nil, rfl, legal_defaults⟩

/-- Settles O31: every register is written, and the cleared transmit space is empty in its canonical form. -/
theorem resetGivesTheResetState : Obligations.ResetGivesTheResetState := by
  intro s hs
  obtain ⟨-, hwf, hin, -⟩ := invariant_iff.mp hs
  have htx : clearTxBuf s.txBuf = [] := clearTxBuf_eq_nil hwf hin
  rw [exec_of_leads .reset, resetOp, htx]
  rfl

/-- Settles O32: the reset state read register by register. -/
theorem resetValues : Obligations.ResetValues :=
  ⟨rfl, rfl, fun a _ => Memory.read_nil a, rfl, rfl, rfl, rfl, rfl, rfl, rfl, rfl, rfl⟩

/-- Settles O56: the step by its decoder, and what every operation leaves of the events and the bounds. -/
theorem stepRunsTheDecodedInstruction : Obligations.StepRunsTheDecodedInstruction :=
  ⟨fun _ _ _ _ h he => step_of_decode_ok h he, fun _ _ _ h => inbox_params_of_leads (leads_of_exec h)⟩

end Sys2Proof.Machine
end

section
/-! PROOFS. The laws of the checksum (spec 40_checksum.md R103) and the two decoders (42_disassembler.md): which failure
is reported (R141, R150), what a frame decodes to (R143 to R148), and the round trip of an assembled frame (R151). -/

namespace Sys2Proof.Machine

/-! ### The laws of the checksum -/

/-- The checksum of the bytes `mid` standing between others, as the sum of `mid`. -/
theorem sum8_append (before mid after : List Byte) (h : mid ≠ []) :
    sum8 (before ++ mid ++ after) before.length (before.length + mid.length - 1) = mid.sum := by
  have hn : before.length + mid.length - 1 + 1 - before.length = mid.length := by
    have := List.length_pos_iff.mpr h
    omega
  rw [sum8_eq_sum, hn, List.append_assoc, List.drop_left, List.take_left]

/-- Settles O2: the range holds the permuted bytes alone, and a sum does not depend on their order. -/
theorem checksumIgnoresByteOrder : Obligations.ChecksumIgnoresByteOrder := by
  intro before mid mid' after h
  by_cases hmid : mid = []
  · subst hmid
    rw [List.nil_perm.mp h]
  · have hmid' : mid' ≠ [] := fun hnil => hmid (List.perm_nil.mp (hnil ▸ h))
    rw [sum8_append before mid after hmid, sum8_append before mid' after hmid']
    exact h.sum_eq

/-- The checksum after one byte of the range is replaced: the old byte goes out, the new one comes in. -/
theorem sum8_set {b : List Byte} {lo hi i : Nat} (v : Byte) (hlo : lo ≤ i) (hhi : i ≤ hi) (hb : i < b.length) :
    sum8 (b.set i v) lo hi = sum8 b lo hi + (-b.getD i 0 + v) := by
  have hlen : i - lo < ((b.drop lo).take (hi + 1 - lo)).length := by
    rw [List.length_take, List.length_drop]
    omega
  have hget : ((b.drop lo).take (hi + 1 - lo))[i - lo] = b.getD i 0 := by
    rw [List.getElem_take, List.getElem_drop, List.getD_eq_getElem _ _ hb]
    congr 1
    omega
  rw [sum8_eq_sum, sum8_eq_sum, List.drop_set, if_neg (Nat.not_lt.mpr hlo), List.take_set, List.sum_set',
    dif_pos hlen, hget]

/-- A byte above the range does not enter the checksum. -/
theorem sum8_set_of_lt {b : List Byte} {lo hi i : Nat} (v : Byte) (hlo : lo ≤ i) (hi' : hi < i) :
    sum8 (b.set i v) lo hi = sum8 b lo hi := by
  rw [sum8_eq_sum, sum8_eq_sum, List.drop_set, if_neg (Nat.not_lt.mpr hlo), List.take_set_of_le (by omega)]

/-- Settles O3: equal checksums would make the new byte the old one. -/
theorem singleByteChangeChangesChecksum : Obligations.SingleByteChangeChangesChecksum := by
  intro b lo hi i v hlo hhi hb hv heq
  rw [sum8_set v hlo hhi (by omega)] at heq
  exact hv (by linear_combination heq)

/-- Settles O5: the bytes from `lo` on are those up to `k` and those after `k`. -/
theorem checksumSplitsAtAnyByte : Obligations.ChecksumSplitsAtAnyByte := by
  intro b lo k hi hlo hk hhi
  have hn : hi + 1 - lo = (k + 1 - lo) + (hi + 1 - (k + 1)) := by omega
  have hdrop : k + 1 = lo + (k + 1 - lo) := by omega
  rw [sum8_eq_sum, sum8_eq_sum, sum8_eq_sum, hn, List.take_add, List.sum_append, List.drop_drop, ← hdrop]

/-! ### The response decoder -/

/-- The tag and the echoed command id name a variant (R69, decision D8). -/
def Listed (b : List Byte) : Prop :=
  byteAt b 1 = 0xC0 ∨ byteAt b 1 = 0xC5 ∧ byteAt b 2 ∈ [(0x02 : Byte), 0x05, 0x06, 0x07, 0x08]

/-- A validated frame decodes when its variant is listed, and is UnknownCommand otherwise (R69, R70). -/
theorem decodeVariant_cases (b : List Byte) :
    (Listed b ∧ ∃ p, decodeVariant b = .ok p) ∨ (¬Listed b ∧ decodeVariant b = .err .unknownCommand) := by
  unfold decodeVariant Listed
  split_ifs <;> simp_all

/-- The ends of the decoder, in the order of its checks (R140, R141). -/
theorem decode10_cases (b : List Byte) :
    (b.length ≠ 10 ∧ decode10 b = .err .badLength) ∨
    (b.length = 10 ∧ (byteAt b 0 ≠ 0xAA ∨ byteAt b 9 ≠ 0xAB) ∧ decode10 b = .err .badFraming) ∨
    (b.length = 10 ∧ byteAt b 0 = 0xAA ∧ byteAt b 9 = 0xAB ∧ byteAt b 8 ≠ sum8 b 2 7 ∧
      decode10 b = .err .checksumMismatch) ∨
    (b.length = 10 ∧ byteAt b 0 = 0xAA ∧ byteAt b 9 = 0xAB ∧ byteAt b 8 = sum8 b 2 7 ∧
      decode10 b = decodeVariant b) := by
  unfold decode10
  split_ifs <;> simp_all

/-- Settles O11: the ends of the decoder exclude each other. -/
theorem decoderReportsTheFirstFailure : Obligations.DecoderReportsTheFirstFailure := by
  intro b
  show (decode10 b = .err .badLength ↔ b.length ≠ 10) ∧
    (decode10 b = .err .badFraming ↔ b.length = 10 ∧ (byteAt b 0 ≠ 0xAA ∨ byteAt b 9 ≠ 0xAB)) ∧
    (decode10 b = .err .checksumMismatch ↔
      b.length = 10 ∧ byteAt b 0 = 0xAA ∧ byteAt b 9 = 0xAB ∧ byteAt b 8 ≠ sum8 b 2 7) ∧
    (decode10 b = .err .unknownCommand ↔
      b.length = 10 ∧ byteAt b 0 = 0xAA ∧ byteAt b 9 = 0xAB ∧ byteAt b 8 = sum8 b 2 7 ∧ ¬Listed b)
  rcases decode10_cases b with ⟨hlen, h⟩ | ⟨hlen, hframe, h⟩ | ⟨hlen, hhead, htail, hck, h⟩ |
    ⟨hlen, hhead, htail, hck, h⟩
  · simp [h, hlen]
  · simp only [h, hlen, DecodeOutcome.err.injEq, reduceCtorEq]
    tauto
  · simp [h, hlen, hhead, htail, hck]
  · rcases decodeVariant_cases b with ⟨hl, p, hv⟩ | ⟨hl, hv⟩ <;> simp [h, hlen, hhead, htail, hck, hl, hv]

/-- Settles O4: the head, the tail and the length stay, and the checksum byte and the checksum come apart, whichever of
the two the change reaches. -/
theorem alteredInteriorByteIsRejected : Obligations.AlteredInteriorByteIsRejected := by
  intro b p i v hb hlo hhi hv
  obtain ⟨hlen, hhead, htail, hck, -⟩ := decode10_ok hb
  have hkeep : ∀ j, j ≠ i → byteAt (b.set i v) j = byteAt b j := fun j hj => by
    simp [byteAt, List.getD_eq_getElem?_getD, hj.symm]
  refine (decoderReportsTheFirstFailure (b.set i v)).2.2.1.mpr ⟨by rwa [List.length_set], ?_, ?_, ?_⟩
  · exact (hkeep 0 (by omega)).trans hhead
  · exact (hkeep 9 (by omega)).trans htail
  · show byteAt (b.set i v) 8 ≠ sum8 (b.set i v) 2 7
    rcases Nat.lt_or_eq_of_le hhi with hlt | rfl
    · rw [hkeep 8 (by omega), hck]
      exact (singleByteChangeChangesChecksum b 2 7 i v hlo (by omega) (by omega) hv).symm
    · rw [sum8_set_of_lt v (by decide) (by decide), ← hck]
      simpa [byteAt, hlen] using hv

/-- A 16-bit value from two bytes is the two bytes side by side (R8, R67). -/
theorem ofHighLow_eq_append (hi lo : Byte) : ofHighLow hi lo = hi ++ lo := by
  apply BitVec.eq_of_toNat_eq
  rw [BitVec.toNat_append, ← Nat.shiftLeft_add_eq_or_of_lt lo.isLt, Nat.shiftLeft_eq, ofHighLow, BitVec.toNat_ofNat]
  have := lo.isLt
  have := hi.isLt
  omega

/-- The checksum of a response frame's bytes 2 to 7. -/
theorem sum8_response (b0 tag b2 b3 b4 b5 lo hi ck b9 : Byte) :
    sum8 [b0, tag, b2, b3, b4, b5, lo, hi, ck, b9] 2 7 = b2 + b3 + b4 + b5 + lo + hi := by
  simp [sum8_eq_sum, BitVec.add_assoc]

/-- A frame with its markers and its own checksum decodes to its variant (R140). -/
theorem decode10_of_checksum (tag b2 b3 b4 b5 lo hi : Byte) :
    decode10 [0xAA, tag, b2, b3, b4, b5, lo, hi, b2 + b3 + b4 + b5 + lo + hi, 0xAB] =
      decodeVariant [0xAA, tag, b2, b3, b4, b5, lo, hi, b2 + b3 + b4 + b5 + lo + hi, 0xAB] := by
  simp [decode10, sum8_response]

/-- Settles O12: the variant of each tag and echoed id, with the fields of R62. -/
theorem responseFramesDecodeToTheirVariants : Obligations.ResponseFramesDecodeToTheirVariants := by
  intro b2 b3 b4 b5 lo hi
  refine ⟨?_, fun c hc => ?_, ?_, ?_⟩ <;> rw [decode10_of_checksum]
  · simp [decodeVariant, measurementOf, pmRawOf, responseFrameId, deviceIdOf, ofHighLow_eq_append]
  · simp only [List.mem_cons, List.not_mem_nil, or_false] at hc
    rcases hc with rfl | rfl | rfl <;>
      simp [decodeVariant, reportModeAckOf, sleepAckOf, periodAckOf, responseFrameId, deviceIdOf, ofHighLow_eq_append]
  · simp [decodeVariant, firmwareAckOf, responseFrameId, deviceIdOf, ofHighLow_eq_append]
  · simp [decodeVariant, deviceIdAckOf, responseFrameId, deviceIdOf, ofHighLow_eq_append]

/-! ### The response frame types run on their own -/

/-- On a frame with its markers the decoder only checks the checksum, once the variant is known (R140). -/
theorem decode10_rspBytes {tag b2 b3 b4 b5 : Byte} {id : Half} {ck : Byte} {p : ParsedResponse}
    (h : decodeVariant (rspBytes tag b2 b3 b4 b5 id ck) = .ok p) :
    decode10 (rspBytes tag b2 b3 b4 b5 id ck) = decodeTyped (rspBytes tag b2 b3 b4 b5 id ck) p := by
  have hlen : (rspBytes tag b2 b3 b4 b5 id ck).length = 10 := rfl
  have hhead : byteAt (rspBytes tag b2 b3 b4 b5 id ck) 0 = 0xAA := rfl
  have htail : byteAt (rspBytes tag b2 b3 b4 b5 id ck) 9 = 0xAB := rfl
  simp only [decode10, decodeTyped, hlen, hhead, htail, h, ne_eq, not_true_eq_false, if_false, ite_not]

/-- The ID of a response frame (R43). -/
theorem responseFrameId_rspBytes (tag b2 b3 b4 b5 : Byte) (id : Half) (ck : Byte) :
    responseFrameId (rspBytes tag b2 b3 b4 b5 id ck) = id := by
  simp [responseFrameId, rspBytes]

/-- An instruction that decodes a byte list's outcome is DECODE10 of that list, in every state. -/
theorem exec_eq_exec_decode10 {i : Instr} {b : List Byte} {r : DecodeOutcome} (hi : opOf i = .decode r)
    (hr : decode10 b = r) (s : State) : exec i s = exec (.decode10 b) s := by
  rw [exec_eq_run, exec_eq_run, hi, opOf, hr]

/-- Settles O18: each type's bytes decode to its variant, so only the checksum is left to check. -/
theorem responseFrameTypesAgreeWithDecoder : Obligations.ResponseFrameTypesAgreeWithDecoder := by
  intro a b c d id ck s
  refine ⟨exec_eq_exec_decode10 rfl (decode10_rspBytes ?_) s, exec_eq_exec_decode10 rfl (decode10_rspBytes ?_) s,
    exec_eq_exec_decode10 rfl (decode10_rspBytes ?_) s, exec_eq_exec_decode10 rfl (decode10_rspBytes ?_) s,
    exec_eq_exec_decode10 rfl (decode10_rspBytes ?_) s, exec_eq_exec_decode10 rfl (decode10_rspBytes ?_) s⟩ <;>
    · rw [decodeVariant, responseFrameId_rspBytes]
      rfl

/-- The checksum byte of a response frame type is checked against its own bytes 2 to 7. -/
theorem decodeTyped_of_checksum (tag b2 b3 b4 b5 : Byte) (id : Half) (p : ParsedResponse) :
    decodeTyped (rspBytes tag b2 b3 b4 b5 id (b2 + b3 + b4 + b5 + lowByte id + highByte id)) p = .ok p := by
  simp [decodeTyped, rspBytes, sum8_response]

/-- A decode that succeeds in a non-busy state answers the response and caches its device ID (R140, R142). -/
theorem exec_of_decode_ok {i : Instr} {s : State} {r : DecodeOutcome} {p : ParsedResponse} (hi : opOf i = .decode r)
    (hr : r = .ok p) (hs : busy s.fsmState = false) : exec i s = .next { s with
      deviceId := responseId p, status := .ok, result := some (.response p), txOut := none, decodeOut := none } :=
  exec_of_leads (by rw [hi, hr]; exact .decoded hs)

/-- Settles O17: the checksum is right, so each type answers its response. -/
theorem responseFrameTypesDecode : Obligations.ResponseFrameTypesDecode := by
  intro a b c d id s hs
  exact ⟨exec_of_decode_ok rfl (decodeTyped_of_checksum _ _ _ _ _ _ (measurementOf a b c d id)) hs,
    exec_of_decode_ok rfl (decodeTyped_of_checksum _ _ _ _ _ _ (reportModeAckOf a b id)) hs,
    exec_of_decode_ok rfl (decodeTyped_of_checksum _ _ _ _ _ _ (sleepAckOf a b id)) hs,
    exec_of_decode_ok rfl (decodeTyped_of_checksum _ _ _ _ _ _ (periodAckOf a b id)) hs,
    exec_of_decode_ok rfl (decodeTyped_of_checksum _ _ _ _ _ _ (firmwareAckOf a b c id)) hs,
    exec_of_decode_ok rfl (decodeTyped_of_checksum _ _ _ _ _ _ (deviceIdAckOf id)) hs⟩

/-! ### The command-frame parser -/

/-- The ends of the parser, in the order of its checks (R150). -/
theorem parse19_cases (b : List Byte) :
    (b.length ≠ 19 ∧ parse19 b = .err .badLength) ∨
    (b.length = 19 ∧ (byteAt b 0 ≠ 0xAA ∨ byteAt b 18 ≠ 0xAB) ∧ parse19 b = .err .badFraming) ∨
    (b.length = 19 ∧ byteAt b 0 = 0xAA ∧ byteAt b 18 = 0xAB ∧ byteAt b 17 ≠ sum8 b 2 16 ∧
      parse19 b = .err .checksumMismatch) ∨
    (b.length = 19 ∧ byteAt b 0 = 0xAA ∧ byteAt b 18 = 0xAB ∧ byteAt b 17 = sum8 b 2 16 ∧
      ¬(byteAt b 1 = 0xB4 ∧ byteAt b 2 ∈ commandIds) ∧ parse19 b = .err .unknownCommand) ∨
    (b.length = 19 ∧ byteAt b 0 = 0xAA ∧ byteAt b 18 = 0xAB ∧ byteAt b 17 = sum8 b 2 16 ∧
      (byteAt b 1 = 0xB4 ∧ byteAt b 2 ∈ commandIds) ∧
      parse19 b = .ok ⟨byteAt b 2, payloadOf b, deviceIdOf (byteAt b 15) (byteAt b 16)⟩) := by
  unfold parse19
  split_ifs <;> simp_all

/-- Settles O13: the ends of the parser exclude each other. -/
theorem parserReportsTheFirstFailure : Obligations.ParserReportsTheFirstFailure := by
  intro b
  show (parse19 b = .err .badLength ↔ b.length ≠ 19) ∧
    (parse19 b = .err .badFraming ↔ b.length = 19 ∧ (byteAt b 0 ≠ 0xAA ∨ byteAt b 18 ≠ 0xAB)) ∧
    (parse19 b = .err .checksumMismatch ↔
      b.length = 19 ∧ byteAt b 0 = 0xAA ∧ byteAt b 18 = 0xAB ∧ byteAt b 17 ≠ sum8 b 2 16) ∧
    (parse19 b = .err .unknownCommand ↔
      b.length = 19 ∧ byteAt b 0 = 0xAA ∧ byteAt b 18 = 0xAB ∧ byteAt b 17 = sum8 b 2 16 ∧
      ¬(byteAt b 1 = 0xB4 ∧ byteAt b 2 ∈ commandIds))
  rcases parse19_cases b with ⟨hlen, h⟩ | ⟨hlen, hframe, h⟩ | ⟨hlen, hhead, htail, hck, h⟩ |
    ⟨hlen, hhead, htail, hck, hcmd, h⟩ | ⟨hlen, hhead, htail, hck, hcmd, h⟩
  · simp [h, hlen]
  · simp only [h, hlen, ParseOutcome.err.injEq, reduceCtorEq]
    tauto
  · simp [h, hlen, hhead, htail, hck]
  · simp only [h, hlen, hhead, htail, hck, hcmd]
    simp
  · simp only [h, hlen, hhead, htail, hck, hcmd]
    simp

/-- An assembled frame of a listed command id passes every check of the parser and gives its parts back (R151). -/
theorem parse19_commandFrame {c : Byte} (p : Payload) (d : Half) (hc : commandIds.contains c = true) :
    parse19 (commandFrame c p d).toList = .ok { commandId := c, payload := p, deviceId := d } := by
  have hck : byteAt (commandFrame c p d).toList 17 = sum8 (commandFrame c p d).toList 2 16 :=
    commandFrame_checksum c p d
  obtain ⟨p0, p1, p2, p3, p4, p5, p6, p7, p8, p9, p10, p11, rfl⟩ := payload_cases p
  generalize hb : (commandFrame c #v[p0, p1, p2, p3, p4, p5, p6, p7, p8, p9, p10, p11] d).toList = b at hck ⊢
  have hlen : b.length = 19 := hb ▸ commandFrame_length _ _ _
  have hhead : byteAt b 0 = 0xAA := hb ▸ rfl
  have htag : byteAt b 1 = 0xB4 := hb ▸ rfl
  have hid : byteAt b 2 = c := hb ▸ rfl
  have hpayload : payloadOf b = #v[p0, p1, p2, p3, p4, p5, p6, p7, p8, p9, p10, p11] := hb ▸ rfl
  have hstamp : deviceIdOf (byteAt b 15) (byteAt b 16) = d := hb ▸ deviceIdOf_low_high d
  have htail : byteAt b 18 = 0xAB := hb ▸ rfl
  simp [parse19, hlen, hhead, htail, hck, htag, hid, hpayload, hstamp, List.contains_iff_mem.mp hc]

/-- Settles O10: the ids named are those of the dispatcher table. -/
theorem assembledFrameParsesBack : Obligations.AssembledFrameParsesBack :=
  fun _ p d hc => parse19_commandFrame p d (List.contains_iff_mem.mpr hc)

/-! ### DECODE10 and PARSE19 -/

/-- Settles O14: by the ends of the two operations, and by the gating in a busy state. -/
theorem disassemblerOperations : Obligations.DisassemblerOperations := by
  refine ⟨fun b p s hs hb => ?_, fun b c s hs hb => ?_, fun b s hs => ?_, fun b s hs => ?_⟩
  · exact exec_of_decode_ok rfl hb hs
  · exact exec_of_leads (i := .parse19 b) (by rw [opOf, hb]; exact .parsed hs)
  · exact endsWith_wrongState_of_pureOp (exec_eq_run (.decode10 b) s) hs
  · exact endsWith_wrongState_of_pureOp (exec_eq_run (.parse19 b) s) hs

/-- A READ whose chunk does not decode answers nothing and caches nothing, whatever the state (R149). -/
theorem read_of_decode_err {chunk : List Byte} {e : FrameError} {w : WriteOutcome} {s t : State}
    (hb : decode10 chunk = .err e) (h : Leads s (.read (.ok chunk) w) t) :
    t.result = none ∧ t.deviceId = s.deviceId := by
  cases h <;> simp_all

/-- Settles O15: by the ends of the two operations and of READ. -/
theorem failedDecodeYieldsNothing : Obligations.FailedDecodeYieldsNothing := by
  refine ⟨fun b e s hs hb => ?_, fun b e s hs hb => ?_, fun b e w s t hb h => ?_⟩
  · exact exec_of_leads (i := .decode10 b) (by rw [opOf, hb]; exact .undecoded hs)
  · exact exec_of_leads (i := .parse19 b) (by rw [opOf, hb]; exact .unparsed hs)
  · exact read_of_decode_err hb (leads_of_exec h)

/-- A READ in a busy state caches what its chunk decodes to (R142), whatever its end. -/
theorem read_caches {chunk : List Byte} {w : WriteOutcome} {s t : State} (hs : busy s.fsmState = true)
    (h : Leads s (.read (.ok chunk) w) t) :
    t.decodeOut = some (decode10 chunk) ∧ t.deviceId = (cacheId (decode10 chunk) s).deviceId := by
  cases h
  case refused hacc => exact absurd (hs.symm.trans hacc) (by decide)
  all_goals simp_all

/-- Settles O16: the cached ID is the one of bytes 6 and 7, which every variant carries. -/
theorem everyDecodedChunkCachesItsDeviceId : Obligations.EveryDecodedChunkCachesItsDeviceId := by
  intro chunk w s t hs h
  obtain ⟨hout, hid⟩ := read_caches hs (leads_of_exec h)
  refine ⟨hout, fun p hp => ?_, fun e he => ?_⟩
  · obtain ⟨-, -, -, -, hv⟩ := decode10_ok hp
    rw [hid, hp, cacheId_ok_deviceId, decodeVariant_id hv]
  · rw [hid, he, cacheId_err]

end Sys2Proof.Machine
end

section
/-! PROOFS. The command frame types (spec 41_assembler.md R112 to R120) and the command operations (43_sync_fsm.md R174
to R185): the frame each builds or hands to the transport, and what a command is rejected with. -/

namespace Sys2Proof.Machine

/-! ### The frame types run on their own -/

/-- A mode's byte is the mode, zero-extended (R67). -/
theorem modeByte_eq_setWidth (m : BitVec 1) : modeByte m = m.setWidth 8 := by
  revert m
  decide

theorem periodOk_iff {v : Byte} : periodOk v = true ↔ v.toNat ≤ 30 := by
  unfold periodOk
  exact decide_eq_true_iff

theorem periodOk_eq_false_iff {v : Byte} : periodOk v = false ↔ 30 < v.toNat := by
  rw [← Bool.not_eq_true, periodOk_iff, Nat.not_le]

/-- An instruction that runs to an assembly builds its packer's frame. -/
theorem buildsFrame_of_run {i : Instr} {p : Packed} {s : State} {f : Frame19} (hrun : (opOf i).run s = assembleOp p s)
    (hf : commandFrame p.cmd p.payload s.deviceId = f) (hwf : Memory.wf s.txBuf = true) : BuildsFrame i s f := by
  subst hf
  exact ⟨_, assemble_writtenWith p.cmd p.payload s hwf, exec_eq_next_iff.mpr hrun⟩

/-- An instruction that assembles builds its packer's frame in a non-busy state. -/
theorem buildsFrame_of_opOf {i : Instr} {p : Packed} {s : State} {f : Frame19} (hi : opOf i = .assemble p)
    (hf : commandFrame p.cmd p.payload s.deviceId = f) (hs : busy s.fsmState = false)
    (hwf : Memory.wf s.txBuf = true) : BuildsFrame i s f :=
  buildsFrame_of_run (by rw [hi]; exact run_of_leads (.assembled hs)) hf hwf

/-- Settles O8: each packer's payload is zero. -/
theorem getFrameTypesBuildTheirFrames : Obligations.GetFrameTypesBuildTheirFrames := by
  intro stamp ck s hs hwf
  exact ⟨buildsFrame_of_opOf rfl (commandFrame_zeroPayload _ _) hs hwf,
    buildsFrame_of_opOf rfl (commandFrame_zeroPayload _ _) hs hwf,
    buildsFrame_of_opOf rfl (commandFrame_zeroPayload _ _) hs hwf,
    buildsFrame_of_opOf rfl (commandFrame_zeroPayload _ _) hs hwf,
    buildsFrame_of_opOf rfl (commandFrame_zeroPayload _ _) hs hwf⟩

/-- The frame of a set command whose value is a mode. -/
theorem commandFrame_setPayload_mode (cmd : Byte) (m : BitVec 1) (id : Half) :
    commandFrame cmd (setPayload (modeByte m)) id = setFrame cmd (m.setWidth 8) id := by
  rw [commandFrame_setPayload, modeByte_eq_setWidth]

/-- TX.PERIOD.SET with a period in range builds its frame (R120). -/
theorem txPeriodSet_buildsFrame {v : Byte} {s : State} (stamp : Half) (ck : Byte) (hs : busy s.fsmState = false)
    (hwf : Memory.wf s.txBuf = true) (hv : v.toNat ≤ 30) :
    BuildsFrame (.txPeriodSet v stamp ck) s (setFrame 0x08 v s.deviceId) :=
  buildsFrame_of_run (run_of_leads (.assembledPeriod hs (periodOk_iff.mpr hv))) (commandFrame_setPayload _ v _) hwf

/-- Settles O9: the set packers' payloads, and the range check of the period. -/
theorem setFrameTypesBuildTheirFrames : Obligations.SetFrameTypesBuildTheirFrames := by
  intro stamp ck s hs hwf
  exact ⟨fun m => buildsFrame_of_opOf rfl (commandFrame_setPayload_mode _ m _) hs hwf,
    fun m => buildsFrame_of_opOf rfl (commandFrame_setPayload_mode _ m _) hs hwf,
    fun newId => buildsFrame_of_opOf rfl (commandFrame_newIdPayload newId _) hs hwf,
    fun v hv => txPeriodSet_buildsFrame stamp ck hs hwf hv,
    fun v hv => exec_of_leads (.unassembledPeriod hs (periodOk_eq_false_iff.mpr hv))⟩

/-! ### The command operations -/

/-- What a send leaves: the flag as the command's class has it, and the frame in `tx_buf` (R174). -/
theorem send_state_eq (cmd : Byte) (payload : Payload) (w : WriteOutcome) (s : State) :
    (send cmd payload w s).state =
      { s with pendingRequest := pendingAfterSend cmd s.pendingRequest, txBuf := (assemble cmd payload s).txBuf } := rfl

/-- A command in IDLE with no request outstanding and its write reported whole hands out its frame and waits (R176). -/
theorem sendsAndWaits_of_opOf {i : Instr} {p : Packed} {s : State} (hi : opOf i = .command p true (.ok 19))
    (hs : s.fsmState = .idle) (hp : s.pendingRequest = false) (hwf : Memory.wf s.txBuf = true) :
    SendsAndWaits i s (commandFrame p.cmd p.payload s.deviceId) (isConfig p.cmd)
      (if p.cmd = 0x04 then .awaitMeas else .awaitAck) := by
  refine ⟨_, assemble_writtenWith p.cmd p.payload s hwf, ?_⟩
  rw [exec_of_leads (by rw [hi]; exact .sent hs hp rfl), send_state_eq, hp, pendingAfterSend, Bool.or_false]
  rfl

/-- A configuration command sets the flag and waits for the acknowledgement (R121, R174, R176). -/
theorem configSendsAndWaits {i : Instr} {p : Packed} {s : State} {f : Frame19}
    (hi : opOf i = .command p true (.ok 19)) (hconf : p.cmd ≠ 0x04)
    (hf : commandFrame p.cmd p.payload s.deviceId = f) (hs : s.fsmState = .idle)
    (hp : s.pendingRequest = false) (hwf : Memory.wf s.txBuf = true) : SendsAndWaits i s f true .awaitAck := by
  have h := sendsAndWaits_of_opOf hi hs hp hwf
  rwa [hf, if_neg hconf, isConfig, bne_iff_ne.mpr hconf] at h

/-- Settles O19: the four get commands, with the frames of the zero payload. -/
theorem getCommandsSendAndWait : Obligations.GetCommandsSendAndWait := by
  intro s hs hp hwf
  exact ⟨configSendsAndWaits rfl (by decide) (commandFrame_zeroPayload _ _) hs hp hwf,
    configSendsAndWaits rfl (by decide) (commandFrame_zeroPayload _ _) hs hp hwf,
    configSendsAndWaits rfl (by decide) (commandFrame_zeroPayload _ _) hs hp hwf,
    configSendsAndWaits rfl (by decide) (commandFrame_zeroPayload _ _) hs hp hwf⟩

/-- A period in range passes SET_PERIOD's check (R185). -/
theorem opOf_setPeriod {v : Byte} (hv : v.toNat ≤ 30) (w : WriteOutcome) :
    opOf (.setPeriod v w) = .command (packPeriodSet v) true w := by
  rw [opOf, periodOk_iff.mpr hv]

/-- Settles O20: the four set commands, with the frames of their payloads. -/
theorem setCommandsSendAndWait : Obligations.SetCommandsSendAndWait := by
  intro s hs hp hwf
  have hconf : ∀ c : Byte, c ∈ [(0x02 : Byte), 0x05, 0x06, 0x08] → c ≠ 0x04 := by decide
  exact ⟨fun m => configSendsAndWaits rfl (hconf 0x02 (by decide)) (commandFrame_setPayload_mode _ m _) hs hp hwf,
    fun m => configSendsAndWaits rfl (hconf 0x06 (by decide)) (commandFrame_setPayload_mode _ m _) hs hp hwf,
    fun id => configSendsAndWaits rfl (hconf 0x05 (by decide)) (commandFrame_newIdPayload id _) hs hp hwf,
    fun v hv => configSendsAndWaits (opOf_setPeriod hv _) (hconf 0x08 (by decide)) (commandFrame_setPayload _ v _) hs hp
      hwf⟩

/-- Settles O21: the data query is no configuration command, so the flag stays clear and the wait is the other one. -/
theorem queryDataSendsAndWaits : Obligations.QueryDataSendsAndWaits := by
  intro s hs hp hwf
  rw [← commandFrame_zeroPayload]
  exact sendsAndWaits_of_opOf (i := .queryData (.ok 19)) rfl hs hp hwf

/-- The command operations with another write outcome run the same template (R170). -/
theorem opOf_withWrite_of_command {i : Instr} {p : Packed} {valid : Bool} {w : WriteOutcome}
    (h : opOf i = .command p valid w) (w' : WriteOutcome) : opOf (withWrite w' i) = .command p valid w' := by
  cases i <;> simp only [opOf, Op.command.injEq, reduceCtorEq] at h <;> obtain ⟨rfl, rfl, -⟩ := h <;> rfl

/-- A command whose period is in range runs the template past its range check (R120). -/
theorem opOf_withWrite_of_inRange {i : Instr} (hc : isCommand i = true) (hr : periodOutOfRange i = false) :
    ∃ p, writesPending i = isConfig p.cmd ∧ ∀ w, opOf (withWrite w i) = .command p true w := by
  obtain ⟨p, valid, w, hi⟩ := isCommand_iff.mp hc
  rw [periodOutOfRange_of_opOf hi, Bool.not_eq_false'] at hr
  exact ⟨p, writesPending_of_opOf hi, fun w' => hr ▸ opOf_withWrite_of_command hi w'⟩

theorem writeOk_eq_false_iff {w : WriteOutcome} : writeOk w = false ↔ w ≠ .ok 19 := by
  rw [Ne, ← writeOk_iff, Bool.not_eq_true]

/-- Settles O22: the frame is the one a whole write hands out, and the send has set the flag by then. -/
theorem failedWriteLeavesTheRequestPending : Obligations.FailedWriteLeavesTheRequestPending := by
  intro i w s hc hw hr hs hp hwf
  obtain ⟨p, hpending, hi⟩ := opOf_withWrite_of_inRange hc hr
  refine ⟨_, commandFrame p.cmd p.payload s.deviceId, _, exec_of_leads (by rw [hi]; exact .sent hs hp rfl), rfl,
    assemble_writtenWith p.cmd p.payload s hwf, ?_⟩
  have hunsent := exec_of_leads (i := withWrite w i) (s := s)
    (by rw [hi]; exact .unsent hs hp (writeOk_eq_false_iff.mpr hw))
  rw [hunsent, send_state_eq, hpending, hp, pendingAfterSend, Bool.or_false]
  rfl

/-- Settles O23: a command past its range check, and READ_MEAS, find the request outstanding. -/
theorem secondRequestIsRejected : Obligations.SecondRequestIsRejected := by
  intro i s hi hr hs hp
  rcases hi with hc | rfl
  · obtain ⟨p, valid, w, hop⟩ := isCommand_iff.mp hc
    rw [periodOutOfRange_of_opOf hop, Bool.not_eq_false'] at hr
    exact exec_of_leads (by rw [hop, hr]; exact .requestPending hs hp)
  · exact exec_of_leads (.noMeasWait hs hp)

/-- OutOfRange comes from the range check of a command or of TX.PERIOD.SET, and writes no other register (R213). -/
theorem outOfRange_of_leads {s t : State} {o : Op} (h : Leads s o t) (ht : t.status = .outOfRange) :
    t = raise .outOfRange s ∧
      ((∃ p w, o = .command p false w) ∨ ∃ v, o = .assemblePeriod v ∧ periodOk v = false) := by
  cases h
  case outOfRange => exact ⟨rfl, .inl ⟨_, _, rfl⟩⟩
  case unassembledPeriod hs hv => exact ⟨rfl, .inr ⟨_, rfl, hv⟩⟩
  case undecoded e _ => cases e <;> cases ht
  case unparsed e _ => cases e <;> cases ht
  all_goals cases ht

/-- Settles O24: SET_PERIOD fails its check in IDLE, and no other end of an operation answers OutOfRange. -/
theorem outOfRangeIsThePeriodCheckAlone : Obligations.OutOfRangeIsThePeriodCheckAlone := by
  refine ⟨fun v w s hv hs => ?_, fun i s t h ht => ?_⟩
  · exact exec_of_leads (by rw [opOf, periodOk_eq_false_iff.mpr hv]; exact .outOfRange hs)
  · obtain ⟨rfl, hop⟩ := outOfRange_of_leads (leads_of_exec h) ht
    refine ⟨h, ?_⟩
    rcases hop with ⟨p, w, hop⟩ | ⟨v, hop, hv⟩
    · obtain ⟨v, rfl, hv⟩ := eq_setPeriod_of_invalid hop
      exact .inl ⟨v, w, rfl, periodOk_eq_false_iff.mp hv⟩
    · obtain ⟨stamp, ck, rfl⟩ := opOf_eq_assemblePeriod.mp hop
      exact .inr ⟨v, stamp, ck, rfl, periodOk_eq_false_iff.mp hv⟩

end Sys2Proof.Machine
end

section
/-! PROOFS. The waits and the connection bootstrap (spec 43_sync_fsm.md R186 to R193), each by the end its conditions
name. -/

namespace Sys2Proof.Machine

/-- A chunk changes no register but the cached device ID (R142). -/
theorem cacheId_eq (r : DecodeOutcome) (s : State) : cacheId r s = { s with deviceId := (cacheId r s).deviceId } := by
  cases r <;> rfl

/-- A wait ends with a measurement when the response is no acknowledgement. -/
theorem isMeasurement_of_not_isAck {p : ParsedResponse} (h : isAck p = false) : isMeasurement p = true := by
  rw [isMeasurement, h]
  rfl

/-- Settles O25: the three ends of the two operations in IDLE. -/
theorem waitOperationsStart : Obligations.WaitOperationsStart :=
  fun _ hs => ⟨fun hp => exec_of_leads (.ackWait hs hp), fun hp => exec_of_leads (.noAckWait hs hp),
    fun hp => exec_of_leads (.measWait hs hp)⟩

/-- Settles O26: the three ends of a READ in AWAIT_ACK. -/
theorem ackWaitReadsOneChunk : Obligations.AckWaitReadsOneChunk := by
  intro chunk w s hs
  refine ⟨fun p hd hp => ?_, fun hno hc => ?_, fun hno hc => ?_⟩
  · rw [exec_of_leads (.acked hs hd hp)]
    rfl
  · rw [exec_of_leads (.ackTimeout hs hno hc), cacheId_eq]
    rfl
  · rw [exec_of_leads (.counted (.inl ⟨hs, hno⟩) hc), cacheId_eq]
    rfl

/-- Settles O27: the three ends of a READ in AWAIT_MEAS. -/
theorem measurementWaitReadsOneChunk : Obligations.MeasurementWaitReadsOneChunk := by
  intro chunk w s hs
  refine ⟨fun p hd hp => ?_, fun hno hc => ?_, fun hno hc => ?_⟩
  · rw [exec_of_leads (.measured hs hd (isMeasurement_of_not_isAck hp))]
    rfl
  · rw [exec_of_leads (.measTimeout hs hno hc), cacheId_eq]
    rfl
  · rw [exec_of_leads (.counted (.inr ⟨hs, hno⟩) hc), cacheId_eq]
    rfl

/-- The firmware request is a configuration command (R121). -/
theorem pendingAfterSend_firmware (pending : Bool) : pendingAfterSend 0x07 pending = true := rfl

/-- Settles O28: the two ends of BOOT in UNCONNECTED, with the frame of the firmware request. -/
theorem bootSendsTheFirmwareRequest : Obligations.BootSendsTheFirmwareRequest := by
  intro w s hs hwf
  rw [← commandFrame_zeroPayload]
  refine ⟨_, assemble_writtenWith 0x07 zeroPayload s hwf, ?_, fun hw => ?_⟩
  · rw [exec_of_leads (i := .boot (.ok 19)) (.booted hs rfl), send_state_eq, pendingAfterSend_firmware, complete]
  · rw [exec_of_leads (i := .boot w) (.unbooted hs (writeOk_eq_false_iff.mpr hw)), send_state_eq, complete]

/-- Settles O29: the five ends of a READ in BOOT; both resends hand out the request stamped with the cached ID. -/
theorem bootstrapPollsOneChunk : Obligations.BootstrapPollsOneChunk := by
  intro chunk w s hs hwf
  refine ⟨fun p hd hp => ?_, fun hno hc => ?_, fun hno hc hl => ?_, fun hno hc hl => ?_⟩
  · rw [exec_of_leads (.connected hs hd hp)]
    rfl
  · rw [exec_of_leads (.polled hs hno hc), cacheId_eq]
    rfl
  · rw [exec_of_leads (.gaveUp hs hno hc hl), cacheId_eq]
    rfl
  · rw [← commandFrame_zeroPayload]
    refine ⟨_, assemble_writtenWith 0x07 zeroPayload { s with deviceId := (cacheId (decode10 chunk) s).deviceId } hwf,
      ?_, fun hw => ?_⟩
    · rw [exec_of_leads (i := .read (.ok chunk) (.ok 19)) (.resent hs hno hc hl rfl)]
      simp [complete, pendingAfterSend, isConfig]
    · rw [exec_of_leads (i := .read (.ok chunk) w) (.unresent hs hno hc hl (writeOk_eq_false_iff.mpr hw))]
      simp [complete, leaveBoot]

/-- Settles O30: the ends of a READ that failed, and the refusal outside the busy states. -/
theorem failedAndMisplacedReads : Obligations.FailedAndMisplacedReads := by
  intro w s
  refine ⟨fun hs => exec_of_leads (.bootReadErr hs), fun hs => exec_of_leads (.waitReadErr hs), fun hs r => ?_⟩
  exact exec_of_leads (.refused hs)

end Sys2Proof.Machine
end

section
/-! PROOFS. The whole machine: gating and status (spec 43_sync_fsm.md R172, 60_exceptions.md R219), who writes which
register (10_state.md R22 to R28), and what holds of a frame that is handed out (43_sync_fsm.md R194). Each is read off
the ends of an operation. -/

namespace Sys2Proof.Machine

/-! ### Gating and status -/

/-- An accepted operation never ends in WrongState (R217). -/
theorem status_of_accepted {o : Op} {s t : State} (hacc : o.accepted s.fsmState = true) (h : Leads s o t) :
    t.status ≠ .wrongState := by
  cases h
  case refused hno => exact absurd (hacc.symm.trans hno) (by decide)
  case undecoded e _ => cases e <;> exact Status.noConfusion
  case unparsed e _ => cases e <;> exact Status.noConfusion
  all_goals exact Status.noConfusion

/-- Settles O34: a state that does not accept the operation refuses it, and no other end is WrongState. -/
theorem gatingTable : Obligations.GatingTable := by
  refine ⟨fun i s hacc => ?_, fun i s t hacc h => ?_⟩
  · rw [acceptedIn_eq] at hacc
    exact exec_of_leads (.refused hacc)
  · rw [acceptedIn_eq] at hacc
    exact status_of_accepted hacc (leads_of_exec h)

/-- Settles O35: a busy state accepts only READ and RESET, and refuses the rest. -/
theorem busyStatesAcceptOnlyReadAndReset : Obligations.BusyStatesAcceptOnlyReadAndReset := by
  intro i s t hs h
  cases hacc : (opOf i).accepted s.fsmState
  · rw [exec_eq_next_iff, run_of_not_accepted hacc] at h
    exact .inr (.inr h.symm)
  · rcases accepted_of_busy hs hacc with ⟨r, w, hr⟩ | hr
    · exact .inl ⟨r, w, opOf_eq_read.mp hr⟩
    · exact .inr (.inl (opOf_eq_reset.mp hr))

/-- From FAILED every operation but RESET ends in FAILED: it is pure, or refused (R214). -/
theorem failed_of_leads {o : Op} {s t : State} (hs : s.fsmState = .failed) (h : Leads s o t) :
    t.fsmState = .failed ∨ o = .reset := by
  cases h
  case reset => exact .inr rfl
  all_goals simp_all [checksumOp, assembleOp]

/-- Settles O36: by the ends from FAILED. -/
theorem onlyResetLeavesFailed : Obligations.OnlyResetLeavesFailed :=
  fun _ _ _ hs h => (failed_of_leads hs (leads_of_exec h)).imp_right opOf_eq_reset.mp

/-- The one status of a command, by its ends (R219). -/
theorem status_of_command {p : Packed} {valid : Bool} {w : WriteOutcome} {s t : State}
    (h : Leads s (.command p valid w) t) :
    t.status =
      if s.fsmState ≠ .idle then .wrongState
      else if valid = false then .outOfRange
      else if s.pendingRequest = true then .requestPending
      else if w ≠ .ok 19 then .ioError
      else .busy := by
  cases h
  case refused hacc => rw [if_pos (beq_eq_false_iff_ne.mp hacc), raise_status]
  case outOfRange hs => simp [hs]
  case requestPending hs hp => simp [hs, hp]
  case sent hs hp hw => simp [hs, hp, (writeOk_iff w).mp hw]
  case unsent hs hp hw => simp [hs, hp, writeOk_eq_false_iff.mp hw]

/-- Settles O37: the command template under the given write outcome. -/
theorem commandStatusPriority : Obligations.CommandStatusPriority := by
  intro i w s t hc h
  obtain ⟨p, valid, w₀, hi⟩ := isCommand_iff.mp hc
  have ht := leads_of_exec h
  rw [opOf_withWrite_of_command hi] at ht
  simp only [status_of_command ht, periodOutOfRange_of_opOf hi, Bool.not_eq_true']

/-! ### Who writes which register -/

/-- The operations that can change the flag (R22). -/
def Op.writesPending : Op → Bool
  | .boot _ => true
  | .read _ _ => true
  | .command p _ _ => isConfig p.cmd
  | .reset => true
  | _ => false

/-- The operations that can change `device_id` (R23). -/
def Op.writesDeviceId : Op → Bool
  | .decode _ => true
  | .read _ _ => true
  | .reset => true
  | _ => false

/-- The operations that can write `tx_buf` (R24). -/
def Op.writesTxBuf : Op → Bool
  | .assemble _ => true
  | .assemblePeriod _ => true
  | .boot _ => true
  | .read _ _ => true
  | .command _ _ _ => true
  | .reset => true
  | _ => false

theorem writesPending_eq (i : Instr) : writesPending i = (opOf i).writesPending := by
  cases i <;> rfl

theorem writesDeviceId_eq (i : Instr) : writesDeviceId i = (opOf i).writesDeviceId := by
  cases i <;> rfl

theorem writesTxBuf_eq (i : Instr) : writesTxBuf i = (opOf i).writesTxBuf := by
  cases i <;> rfl

/-- Caching leaves the ID or takes the one of the response (R142). -/
theorem cacheId_deviceId_cases (r : DecodeOutcome) (s : State) :
    (cacheId r s).deviceId = s.deviceId ∨ ∃ p, r = .ok p ∧ responseId p = (cacheId r s).deviceId := by
  cases r with
  | ok p => exact .inr ⟨p, rfl, rfl⟩
  | err e => exact .inl rfl

/-- A READ that changes the device ID gives out the response that holds the new one (R142). -/
theorem response_of_read {r : ReadOutcome} {w : WriteOutcome} {s t : State} (h : Leads s (.read r w) t)
    (hne : t.deviceId ≠ s.deviceId) : ∃ p, responseId p = t.deviceId ∧ t.decodeOut = some (.ok p) := by
  cases hs : busy s.fsmState
  · rw [← run_of_leads h, run_of_not_accepted (o := .read r w) hs] at hne
    exact absurd rfl hne
  · cases r with
    | err => cases h <;> exact absurd rfl hne
    | ok chunk =>
      obtain ⟨hout, hid⟩ := read_caches hs h
      rw [hid] at hne ⊢
      obtain ⟨p, hp, hpid⟩ := (cacheId_deviceId_cases _ s).resolve_left hne
      exact ⟨p, hpid, hp ▸ hout⟩

/-- A new device ID comes from RESET, or from a response that the step gives out (R23). -/
theorem deviceId_of_leads {o : Op} {s t : State} (h : Leads s o t) (hne : t.deviceId ≠ s.deviceId) :
    o = .reset ∨ (o.writesDeviceId = true ∧
      ∃ p, responseId p = t.deviceId ∧ (t.decodeOut = some (.ok p) ∨ t.result = some (.response p))) := by
  cases o with
  | reset => exact .inl rfl
  | read r w =>
    obtain ⟨p, hid, hout⟩ := response_of_read h hne
    exact .inr ⟨rfl, p, hid, .inl hout⟩
  | decode r =>
    cases h with
    | decoded => exact .inr ⟨rfl, _, rfl, .inr rfl⟩
    | refused => exact absurd rfl hne
    | undecoded => exact absurd rfl hne
  | _ => cases h <;> exact hne.elim (by simp [checksumOp, assembleOp])

/-- Settles O38: the operation names the cause. -/
theorem deviceIdChangesOnlyByDecodeOrReset : Obligations.DeviceIdChangesOnlyByDecodeOrReset := by
  intro i s t h hne
  rw [writesDeviceId_eq, ← opOf_eq_reset]
  exact deviceId_of_leads (leads_of_exec h) hne

/-- The flag changes only where R22 says, and is set only with a frame handed out. -/
theorem pendingRequest_of_leads {o : Op} {s t : State} (h : Leads s o t) (hne : t.pendingRequest ≠ s.pendingRequest) :
    o.writesPending = true ∧ (t.pendingRequest = true → t.txOut.isSome = true) := by
  cases h
  case sent => simp_all [Op.writesPending, pendingAfterSend]
  case unsent => simp_all [Op.writesPending, pendingAfterSend]
  case decoded => exact absurd rfl hne
  all_goals simp_all [Op.writesPending, checksumOp, assembleOp, readErrBoot, readErrWait]

/-- Settles O39: by the ends of the operation. -/
theorem pendingRequestChangesOnlyWhereTheSpecSays : Obligations.PendingRequestChangesOnlyWhereTheSpecSays := by
  intro i s t h hne
  rw [writesPending_eq]
  exact pendingRequest_of_leads (leads_of_exec h) hne

/-- An operation that writes no `tx_buf` leaves the transmit space (R24). -/
theorem txBuf_of_not_writes {o : Op} {s t : State} (h : Leads s o t) (ho : o.writesTxBuf = false) :
    t.txBuf = s.txBuf := by
  cases h <;> simp_all [Op.writesTxBuf, checksumOp]

/-- The operations that can hand a frame to the transport (R174, R190, R191). -/
def Op.sends : Op → Bool
  | .boot _ => true
  | .read _ _ => true
  | .command _ _ _ => true
  | _ => false

/-- A sending operation that hands out no frame leaves the transmit space (R24). -/
theorem txBuf_of_not_sent {o : Op} {s t : State} (h : Leads s o t) (ho : o.sends = true) (ht : t.txOut = none) :
    t.txBuf = s.txBuf := by
  cases h <;> simp_all [Op.sends, readErrBoot, readErrWait]

theorem sends_opOf {i : Instr} (h : isCommand i = true ∨ (∃ w, i = .boot w) ∨ ∃ r w, i = .read r w) :
    (opOf i).sends = true := by
  rcases h with h | ⟨w, rfl⟩ | ⟨r, w, rfl⟩
  · obtain ⟨p, valid, w, hi⟩ := isCommand_iff.mp h
    rw [hi, Op.sends]
  · rfl
  · rfl

/-- Settles O40: memory that is not written reads as it did. -/
theorem transmitBufferFrame : Obligations.TransmitBufferFrame := by
  intro i s t h
  refine ⟨fun hi a => ?_, fun hi ht a => ?_⟩
  · rw [txBuf_of_not_writes (leads_of_exec h) (writesTxBuf_eq i ▸ hi)]
  · rw [txBuf_of_not_sent (leads_of_exec h) (sends_opOf hi) ht]

/-- The operations that can change the bootstrap counters (R27, R28). -/
theorem bootCounters_of_leads {o : Op} {s t : State} (h : Leads s o t)
    (hne : t.pollCount ≠ s.pollCount ∨ t.cycleCount ≠ s.cycleCount) :
    (∃ w, o = .boot w) ∨ (∃ r w, o = .read r w) ∨ o = .reset := by
  cases h <;> simp_all [checksumOp, assembleOp]

/-- The operations that can change the read counter (R26). -/
theorem readCount_of_leads {o : Op} {s t : State} (h : Leads s o t) (hne : t.readCount ≠ s.readCount) :
    (∃ p valid w, o = .command p valid w) ∨ o = .awaitAck ∨ o = .readMeas ∨ (∃ r w, o = .read r w) ∨ o = .reset := by
  cases h <;> simp_all [checksumOp, assembleOp]

/-- Settles O41: each operation named by its instruction. -/
theorem countersFrame : Obligations.CountersFrame := by
  intro i s t h
  have hi := leads_of_exec h
  refine ⟨fun hne => ?_, fun hne => ?_⟩
  · simpa only [opOf_eq_boot, opOf_eq_read, opOf_eq_reset] using bootCounters_of_leads hi hne
  · simpa only [isCommand_iff, opOf_eq_awaitAck, opOf_eq_readMeas, opOf_eq_read, opOf_eq_reset] using
      readCount_of_leads hi hne

/-! ### Frames handed to the transport -/

/-- Outside the bootstrap a frame is handed out only with the flag clear (R194 item 1). -/
theorem pending_of_sent {o : Op} {s t : State} (h : Leads s o t) (hinv : registersOk s = true)
    (ht : t.txOut.isSome = true) : s.pendingRequest = false ∨ (s.fsmState = .boot ∧ ∃ r w, o = .read r w) := by
  cases h
  case sent hs hp hw => exact .inl hp
  case unsent hs hp hw => exact .inl hp
  case booted hs hw => exact .inl ((registersOk_of_unconnected hs).mp hinv).1
  case unbooted hs hw => exact .inl ((registersOk_of_unconnected hs).mp hinv).1
  case resent hs _ _ _ _ => exact .inr ⟨hs, _, _, rfl⟩
  case unresent hs _ _ _ _ => exact .inr ⟨hs, _, _, rfl⟩
  all_goals cases ht

/-- Settles O42: under the invariant UNCONNECTED has the flag clear, and a command checks it. -/
theorem noSendWhileARequestIsOutstanding : Obligations.NoSendWhileARequestIsOutstanding := by
  intro i s t hinv h ht
  simpa only [opOf_eq_read] using pending_of_sent (leads_of_exec h) (invariant_iff.mp hinv).1 ht

/-- A frame handed out is a command frame under the ID the block then holds, and stands in `tx_buf` (R174). -/
theorem frame_of_sent {i : Instr} {s t : State} {f : Frame19} (h : Leads s (opOf i) t) (ht : t.txOut = some f) :
    ∃ c p, commandIds.contains c = true ∧ f = commandFrame c p t.deviceId ∧
      t.txBuf = Memory.writeBytes s.txBuf 0 f.toList := by
  generalize ho : opOf i = o at h
  cases h
  case sent p w hs hp hw =>
    cases ht
    exact ⟨p.cmd, p.payload, commandIds_contains_cmd ho, rfl, rfl⟩
  case unsent p w hs hp hw =>
    cases ht
    exact ⟨p.cmd, p.payload, commandIds_contains_cmd ho, rfl, rfl⟩
  case booted =>
    cases ht
    exact ⟨0x07, zeroPayload, rfl, rfl, by simp⟩
  case unbooted =>
    cases ht
    exact ⟨0x07, zeroPayload, rfl, rfl, by simp⟩
  case resent =>
    cases ht
    exact ⟨0x07, zeroPayload, rfl, rfl, by simp⟩
  case unresent =>
    cases ht
    exact ⟨0x07, zeroPayload, rfl, rfl, by simp⟩
  all_goals cases ht

/-- Settles O43: the frame handed out, read back from the transmit space and by the parser. -/
theorem everySentFrameIsBufferedAndParses : Obligations.EverySentFrameIsBufferedAndParses := by
  intro i s t f hwf h ht
  obtain ⟨c, p, hc, hf, htx⟩ := frame_of_sent (leads_of_exec h) ht
  refine ⟨fun a ha => ?_, c, p, List.contains_iff_mem.mp hc, ?_⟩
  · rw [htx, Memory.read_writeBytes _ _ _ hwf, if_pos ⟨Nat.zero_le a, by simpa using ha⟩, Nat.sub_zero]
  · rw [hf]
    exact parse19_commandFrame p t.deviceId hc

/-- The acknowledgement wait ends with the flag clear, but for a failed read (R188, R192, R240). -/
theorem pending_of_ackWait_exit {o : Op} {s t : State} (h : Leads s o t) (hs : s.fsmState = .awaitAck)
    (hexit : t.fsmState ≠ .awaitAck) (hio : t.status ≠ .ioError) : t.pendingRequest = false := by
  cases h
  case waitReadErr => exact absurd rfl hio
  all_goals simp_all [checksumOp, assembleOp]

/-- Settles O44: by the ends from AWAIT_ACK. -/
theorem ackWaitExitsCleanly : Obligations.AckWaitExitsCleanly :=
  fun _ _ _ hs h hexit hio => pending_of_ackWait_exit (leads_of_exec h) hs hexit hio

/-! ### The write outcome -/

/-- The operation with another write outcome, where it has one (R170). -/
def Op.withWrite (w : WriteOutcome) : Op → Op
  | .boot _ => .boot w
  | .read r _ => .read r w
  | .command p valid _ => .command p valid w
  | o => o

theorem opOf_withWrite (w : WriteOutcome) (i : Instr) : opOf (withWrite w i) = (opOf i).withWrite w := by
  cases i <;> rfl

/-- A command's end is the same with a write outcome of the same success, and with any where nothing is written. -/
theorem leads_command_withWrite {p : Packed} {valid : Bool} {w w' : WriteOutcome} {s t : State}
    (h : Leads s (.command p valid w) t) (hw : t.txOut = none ∨ writeOk w' = writeOk w) :
    Leads s (.command p valid w') t := by
  cases h
  case refused hacc => exact .refused hacc
  case outOfRange hs => exact .outOfRange hs
  case requestPending hs hp => exact .requestPending hs hp
  case sent hs hp hok => exact .sent hs hp ((hw.resolve_left (Option.some_ne_none _)).trans hok)
  case unsent hs hp hok => exact .unsent hs hp ((hw.resolve_left (Option.some_ne_none _)).trans hok)

/-- The same of BOOT. -/
theorem leads_boot_withWrite {w w' : WriteOutcome} {s t : State} (h : Leads s (.boot w) t)
    (hw : t.txOut = none ∨ writeOk w' = writeOk w) : Leads s (.boot w') t := by
  cases h
  case refused hacc => exact .refused hacc
  case booted hs hok => exact .booted hs ((hw.resolve_left (Option.some_ne_none _)).trans hok)
  case unbooted hs hok => exact .unbooted hs ((hw.resolve_left (Option.some_ne_none _)).trans hok)

/-- The same of READ. -/
theorem leads_read_withWrite {r : ReadOutcome} {w w' : WriteOutcome} {s t : State} (h : Leads s (.read r w) t)
    (hw : t.txOut = none ∨ writeOk w' = writeOk w) : Leads s (.read r w') t := by
  cases h
  case refused hacc => exact .refused hacc
  case bootReadErr hs => exact .bootReadErr hs
  case waitReadErr hs => exact .waitReadErr hs
  case acked hs hd hp => exact .acked hs hd hp
  case measured hs hd hp => exact .measured hs hd hp
  case ackTimeout hs hno hc => exact .ackTimeout hs hno hc
  case measTimeout hs hno hc => exact .measTimeout hs hno hc
  case counted hs hc => exact .counted hs hc
  case connected hs hd hp => exact .connected hs hd hp
  case polled hs hno hc => exact .polled hs hno hc
  case gaveUp hs hno hc hl => exact .gaveUp hs hno hc hl
  case resent hs hno hc hl hok => exact .resent hs hno hc hl ((hw.resolve_left (Option.some_ne_none _)).trans hok)
  case unresent hs hno hc hl hok => exact .unresent hs hno hc hl ((hw.resolve_left (Option.some_ne_none _)).trans hok)

/-- Settles O45: only the three sending operations look at the outcome, and only at whether it is `Ok(19)`. -/
theorem writeOutcomeMattersOnlyAsSuccess : Obligations.WriteOutcomeMattersOnlyAsSuccess := by
  intro i w w' s t h hw
  have hw' : t.txOut = none ∨ writeOk w' = writeOk w :=
    hw.imp_right fun hiff => Bool.eq_iff_iff.mpr (by rw [writeOk_iff, writeOk_iff, hiff])
  have ht := leads_of_exec h
  refine exec_of_leads ?_
  rw [opOf_withWrite] at ht ⊢
  cases ho : opOf i <;> rw [ho] at ht
  case boot => exact leads_boot_withWrite ht hw'
  case read => exact leads_read_withWrite ht hw'
  case command => exact leads_command_withWrite ht hw'
  all_goals exact ht

end Sys2Proof.Machine
end

section
/-! PROOFS. Bounds on the waits and the bootstrap (spec 43_sync_fsm.md R195): every READ uses up the budget, and a wait
or a bootstrap that never reads what it waits for ends after exactly its number of reads. -/

namespace Sys2Proof.Machine

/-! ### The budget -/

/-- A resend starts a new cycle, one READ after the last poll of the one before (R191). -/
theorem budget_after_resend {cycles polls cycle poll : Nat} (hcycle : cycle < cycles) (hlast : polls ≤ poll + 1)
    (hpoll : poll < polls) :
    (cycles - (cycle + 1)) * polls + (polls - 0) + 1 = (cycles - cycle) * polls + (polls - poll) := by
  obtain ⟨n, rfl⟩ : ∃ n, cycles = cycle + 1 + n := ⟨cycles - (cycle + 1), by omega⟩
  have hn : cycle + 1 + n - (cycle + 1) = n := by omega
  have hn' : cycle + 1 + n - cycle = n + 1 := by omega
  rw [hn, hn', Nat.add_mul]
  omega

/-- Settles O46: the ends that stay busy are a counted read, a failed poll and a resend; each uses up one read. -/
theorem everyReadUsesUpTheBudget : Obligations.EveryReadUsesUpTheBudget := by
  intro r w s t hinv hbusy h hbusy'
  have hregs := (invariant_iff.mp hinv).1
  have hl : Leads s (.read r w) t := leads_of_exec h
  clear h
  cases hl
  case refused hacc => exact absurd (hbusy.symm.trans hacc) (by decide)
  case counted chunk hs hc =>
    rcases hs with ⟨hs, -⟩ | ⟨hs, -⟩
    · obtain ⟨-, hread, -⟩ := (registersOk_of_awaitAck hs).mp hregs
      refine ⟨by simp, ?_⟩
      simp [readsLeft, hs]
      omega
    · obtain ⟨-, hread, -⟩ := (registersOk_of_awaitMeas hs).mp hregs
      refine ⟨by simp, ?_⟩
      simp [readsLeft, hs]
      omega
  case polled chunk hs hno hc =>
    refine ⟨by simp, ?_⟩
    simp [readsLeft, hs]
    omega
  case resent chunk hs hno hc hlast hw =>
    obtain ⟨-, -, hpoll, -, hcycle⟩ := (registersOk_of_boot hs).mp hregs
    refine ⟨by simp, ?_⟩
    simpa [readsLeft, hs] using budget_after_resend (Nat.lt_of_le_of_ne hcycle hlast) hc hpoll
  all_goals exact absurd hbusy' (by simp [busy, readErrBoot, readErrWait])

/-! ### Runs of READ events -/

/-- One more step of a run, taken at its end. -/
theorem run_succ {M : Host.Core} {k : Nat} {s u : M.State} (h : M.run k s = .next u) : M.run (k + 1) s = M.step u := by
  induction k generalizing s with
  | zero =>
    cases h
    cases hstep : M.step u <;> simp only [Host.Core.run, hstep]
  | succ k ih =>
    rw [Host.Core.run.eq_def] at h ⊢
    cases hstep : M.step s with
    | next v =>
      simp only [hstep] at h ⊢
      exact ih h
    | fault r =>
      simp only [hstep] at h
      cases h
    | refused r =>
      simp only [hstep] at h
      cases h

/-- The events left after `k` chunks: the next one's READ, then the others. -/
theorem readEvents_drop {chunks : List (List Byte)} {k : Nat} (hk : k < chunks.length) (rest : List Event) :
    readEvents (chunks.drop k) ++ rest =
      encode (.read (.ok chunks[k]) (.ok 19)) :: (readEvents (chunks.drop (k + 1)) ++ rest) := by
  rw [List.drop_eq_getElem_cons hk]
  rfl

/-- A step that takes a READ event ends as the READ does, with that event taken. -/
theorem step_of_leads_read {s t : State} {chunk : List Byte} {rest : List Event}
    (hin : s.inbox = encode (.read (.ok chunk) (.ok 19)) :: rest)
    (h : Leads (takeEvent rest s) (.read (.ok chunk) (.ok 19)) t) : step s = .next t := by
  rw [step_of_decode_ok hin (decodeOfEncodeIsTheInstruction _)]
  exact exec_of_leads h

/-! ### The waits -/

/-- The wait `s` entered, after `k` of its chunks were read without their frame. -/
structure Waiting (s : State) (chunks : List (List Byte)) (rest : List Event) (k : Nat) (t : State) : Prop where
  fsmState : t.fsmState = s.fsmState
  readCount : t.readCount = k
  pendingRequest : t.pendingRequest = s.pendingRequest
  params : t.params = s.params
  inbox : t.inbox = readEvents (chunks.drop k) ++ rest

/-- No chunk holds the frame the wait of `s` is for. -/
def Fruitless (s : State) (chunks : List (List Byte)) : Prop :=
  (s.fsmState = .awaitAck ∧ ∀ c ∈ chunks, noAck c = true) ∨
    (s.fsmState = .awaitMeas ∧ ∀ c ∈ chunks, noMeasurement c = true)

section waits

variable {s t : State} {chunks : List (List Byte)} {rest : List Event} {k : Nat}

/-- A read before the last is counted (R188, R189). -/
theorem Waiting.step (h : Waiting s chunks rest k t) (hf : Fruitless s chunks) (hk : k < chunks.length)
    (hlast : k + 1 ≠ s.params.maxReads) : ∃ u, Machine.step t = .next u ∧ Waiting s chunks rest (k + 1) u := by
  obtain ⟨hfsm, hcount, hpending, hparams, hin⟩ := h
  rw [readEvents_drop hk rest] at hin
  have hmem : chunks[k] ∈ chunks := List.getElem_mem hk
  refine ⟨_, step_of_leads_read hin (.counted ?_ ?_), ⟨?_, ?_, ?_, ?_, ?_⟩⟩
  · rw [takeEvent_fsmState, hfsm]
    exact hf.imp (fun h => ⟨h.1, h.2 _ hmem⟩) (fun h => ⟨h.1, h.2 _ hmem⟩)
  · rwa [takeEvent_readCount, takeEvent_params, hcount, hparams]
  all_goals simp [hfsm, hcount, hpending, hparams]

/-- The wait goes on through every read before the last. -/
theorem waiting_run (hf : Fruitless s chunks) (hcount : s.readCount = 0) (hin : s.inbox = readEvents chunks ++ rest)
    (hlen : chunks.length = s.params.maxReads) (hk : k < s.params.maxReads) :
    ∃ t, Host.Core.run core k s = .next t ∧ Waiting s chunks rest k t := by
  induction k with
  | zero => exact ⟨s, rfl, rfl, hcount, rfl, rfl, hin⟩
  | succ k ih =>
    obtain ⟨t, hrun, ht⟩ := ih (by omega)
    obtain ⟨u, hstep, hu⟩ := ht.step hf (by omega) (by omega)
    exact ⟨u, (run_succ hrun).trans hstep, hu⟩

/-- The last read ends the wait in Timeout (R188, R189). -/
theorem Waiting.timeout (h : Waiting s chunks rest k t) (hf : Fruitless s chunks)
    (hlen : chunks.length = s.params.maxReads) (hlast : k + 1 = s.params.maxReads) :
    ∃ u, Machine.step t = .next u ∧ u.fsmState = .idle ∧ u.status = .timeout ∧ u.readCount = 0 ∧ u.inbox = rest ∧
      (s.fsmState = .awaitAck → u.pendingRequest = false) ∧
      (s.fsmState = .awaitMeas → u.pendingRequest = s.pendingRequest) := by
  obtain ⟨hfsm, hcount, hpending, hparams, hin⟩ := h
  have hk : k < chunks.length := by omega
  have hend : chunks.drop (k + 1) = [] := List.drop_eq_nil_of_le (by omega)
  rw [readEvents_drop hk rest, hend] at hin
  have hmem : chunks[k] ∈ chunks := List.getElem_mem hk
  have hc : (takeEvent (readEvents [] ++ rest) t).readCount + 1 =
      (takeEvent (readEvents [] ++ rest) t).params.maxReads := by
    rwa [takeEvent_readCount, takeEvent_params, hcount, hparams]
  rcases hf with ⟨hs, hno⟩ | ⟨hs, hno⟩
  · refine ⟨_, step_of_leads_read hin (.ackTimeout (hfsm.trans hs) (hno _ hmem) hc), ?_⟩
    simp [readEvents, hs]
  · refine ⟨_, step_of_leads_read hin (.measTimeout (hfsm.trans hs) (hno _ hmem) hc), ?_⟩
    simp [readEvents, hs, hpending]

end waits

/-- Settles O48: the wait goes on up to the last read, and that one ends it. -/
theorem waitsTimeOutAfterMaxReads : Obligations.WaitsTimeOutAfterMaxReads := by
  intro s chunks rest hlegal hcount hlen hin hf
  obtain ⟨n, hn⟩ : ∃ n, s.params.maxReads = n + 1 := Nat.exists_eq_succ_of_ne_zero (by
    have := ((legal_iff _).mp hlegal).1
    omega)
  refine ⟨fun k hk => ?_, ?_⟩
  · obtain ⟨t, hrun, ht⟩ := waiting_run hf hcount hin hlen hk
    exact ⟨t, hrun, ht.fsmState, ht.readCount⟩
  · obtain ⟨t, hrun, ht⟩ := waiting_run (k := n) hf hcount hin hlen (by omega)
    obtain ⟨u, hstep, hu⟩ := ht.timeout hf hlen hn.symm
    exact ⟨u, hn ▸ (run_succ hrun).trans hstep, hu⟩

/-! ### The bootstrap -/

/-- The bootstrap `s` began, after `k` failed polls: the polls of the current cycle and the number of that cycle. -/
structure Polling (s : State) (chunks : List (List Byte)) (rest : List Event) (k : Nat) (t : State) : Prop where
  fsmState : t.fsmState = .boot
  pollCount : t.pollCount = k % s.params.pollsPerCycle
  cycleCount : t.cycleCount = 1 + k / s.params.pollsPerCycle
  params : t.params = s.params
  inbox : t.inbox = readEvents (chunks.drop k) ++ rest

/-- A poll within a cycle counts up, and the last poll of a cycle starts the next one. -/
theorem succ_div_mod {k n : Nat} (hn : 0 < n) :
    (k % n + 1 < n ∧ (k + 1) / n = k / n ∧ (k + 1) % n = k % n + 1) ∨
      (n ≤ k % n + 1 ∧ (k + 1) / n = k / n + 1 ∧ (k + 1) % n = 0) := by
  have hk := Nat.mod_add_div k n
  have hlt := Nat.mod_lt k hn
  by_cases h : k % n + 1 < n
  · exact .inl ⟨h, (Nat.div_mod_unique hn).mpr ⟨by omega, h⟩⟩
  · refine .inr ⟨Nat.le_of_not_lt h, (Nat.div_mod_unique hn).mpr ⟨?_, hn⟩⟩
    rw [Nat.mul_add]
    omega

section bootstrap

variable {s t : State} {chunks : List (List Byte)} {rest : List Event} {k : Nat}

/-- The cycle reached after `k` polls is the last one only when the last poll of it is `k + 1`. -/
theorem last_poll_iff {polls cycles : Nat} (hpolls : 0 < polls) (hlast : polls ≤ k % polls + 1) :
    1 + k / polls = cycles ↔ k + 1 = polls * cycles := by
  have hk := Nat.mod_add_div k polls
  have hlt := Nat.mod_lt k hpolls
  have hk' : k + 1 = polls * (1 + k / polls) := by
    rw [Nat.mul_add]
    omega
  rw [hk', Nat.mul_right_inj hpolls.ne']

/-- A poll before the last one continues the cycle or starts the next (R191). -/
theorem Polling.step (h : Polling s chunks rest k t) (hno : ∀ c ∈ chunks, noAck c = true) (hk : k < chunks.length)
    (hpolls : 0 < s.params.pollsPerCycle) (hlast : k + 1 ≠ s.params.pollsPerCycle * s.params.maxCycles) :
    ∃ u, Machine.step t = .next u ∧ Polling s chunks rest (k + 1) u := by
  obtain ⟨hfsm, hpoll, hcycle, hparams, hin⟩ := h
  rw [readEvents_drop hk rest] at hin
  have hchunk := hno _ (List.getElem_mem hk)
  rcases succ_div_mod (k := k) hpolls with ⟨hlt, hdiv, hmod⟩ | ⟨hle, hdiv, hmod⟩
  · refine ⟨_, step_of_leads_read hin (.polled hfsm hchunk (by simpa [hpoll, hparams] using hlt)), ?_⟩
    constructor <;> simp [hfsm, hpoll, hcycle, hparams, hdiv, hmod]
  · have hmore : 1 + k / s.params.pollsPerCycle ≠ s.params.maxCycles := fun he =>
      hlast ((last_poll_iff hpolls hle).mp he)
    refine ⟨_, step_of_leads_read hin (.resent hfsm hchunk (by simpa [hpoll, hparams] using hle)
      (by simpa [hcycle, hparams] using hmore) rfl), ?_⟩
    constructor <;> simp [hfsm, hcycle, hparams, hdiv, hmod, Nat.add_assoc]

/-- The last poll of the last cycle ends the bootstrap in FAILED (R191). -/
theorem Polling.giveUp (h : Polling s chunks rest k t) (hno : ∀ c ∈ chunks, noAck c = true)
    (hpolls : 0 < s.params.pollsPerCycle) (hlen : chunks.length = s.params.pollsPerCycle * s.params.maxCycles)
    (hlast : k + 1 = s.params.pollsPerCycle * s.params.maxCycles) :
    ∃ u, Machine.step t = .next u ∧ u.fsmState = .failed ∧ u.status = .unreachable ∧ u.pendingRequest = false ∧
      u.inbox = rest := by
  obtain ⟨hfsm, hpoll, hcycle, hparams, hin⟩ := h
  have hk : k < chunks.length := by omega
  have hend : chunks.drop (k + 1) = [] := List.drop_eq_nil_of_le (by omega)
  rw [readEvents_drop hk rest, hend] at hin
  have hmod : (k + 1) % s.params.pollsPerCycle = 0 := by
    rw [hlast, Nat.mul_mod_right]
  have hle : s.params.pollsPerCycle ≤ k % s.params.pollsPerCycle + 1 := by
    rcases succ_div_mod (k := k) hpolls with ⟨-, -, hmod'⟩ | ⟨hle, -, -⟩ <;> omega
  refine ⟨_, step_of_leads_read hin (.gaveUp hfsm (hno _ (List.getElem_mem hk)) (by simpa [hpoll, hparams] using hle)
    (by simpa [hcycle, hparams] using (last_poll_iff hpolls hle).mpr hlast)), ?_⟩
  simp [readEvents]

/-- The bootstrap goes on through every poll before the last. -/
theorem polling_run (hno : ∀ c ∈ chunks, noAck c = true) (hs : s.fsmState = .boot) (hpoll : s.pollCount = 0)
    (hcycle : s.cycleCount = 1) (hin : s.inbox = readEvents chunks ++ rest) (hpolls : 0 < s.params.pollsPerCycle)
    (hlen : chunks.length = s.params.pollsPerCycle * s.params.maxCycles)
    (hk : k < s.params.pollsPerCycle * s.params.maxCycles) :
    ∃ t, Host.Core.run core k s = .next t ∧ Polling s chunks rest k t := by
  induction k with
  | zero => exact ⟨s, rfl, hs, by rw [hpoll, Nat.zero_mod], by rw [hcycle, Nat.zero_div], rfl, hin⟩
  | succ k ih =>
    obtain ⟨t, hrun, ht⟩ := ih (by omega)
    obtain ⟨u, hstep, hu⟩ := ht.step hno (by omega) hpolls (by omega)
    exact ⟨u, (run_succ hrun).trans hstep, hu⟩

end bootstrap

/-- Settles O47: the bootstrap goes on up to the last poll, and that one ends it. -/
theorem bootstrapGivesUpAfterItsPolls : Obligations.BootstrapGivesUpAfterItsPolls := by
  intro s chunks rest hlegal hs hpoll hcycle hlen hno hin
  obtain ⟨-, hpolls, hcycles⟩ := (legal_iff _).mp hlegal
  obtain ⟨n, hn⟩ : ∃ n, s.params.pollsPerCycle * s.params.maxCycles = n + 1 :=
    Nat.exists_eq_succ_of_ne_zero (Nat.mul_pos hpolls hcycles).ne'
  refine ⟨fun k hk => ?_, ?_⟩
  · obtain ⟨t, hrun, ht⟩ := polling_run hno hs hpoll hcycle hin hpolls hlen hk
    exact ⟨t, hrun, ht.fsmState, ht.pollCount, ht.cycleCount⟩
  · obtain ⟨t, hrun, ht⟩ := polling_run (k := n) hno hs hpoll hcycle hin hpolls hlen (by omega)
    obtain ⟨u, hstep, hu⟩ := ht.giveUp hno hpolls hlen hn.symm
    exact ⟨u, hn ▸ (run_succ hrun).trans hstep, hu⟩

end Sys2Proof.Machine
end

section
/-! PROOFS. Events that decode to no instruction (spec 30_encoding.md R70, R72): which the block answers, and where a
step stops. -/

namespace Sys2Proof.Machine

/-- An event of a reserved OP, whatever follows it (R72). -/
theorem decode_reservedOp {op : Byte} (h : op ∉ hostOpCodes) (operands : List Byte) (w : WriteOutcome) :
    decode { format := .hostOp, bytes := op :: operands, w := w } = .error (.reservedOp op) := by
  simp only [decode, decodeHostOp, hostOp_eq_none h]

/-- Settles O57: a reserved OP is told apart before the state is looked at. -/
theorem reservedOpIsIllegalInEveryState : Obligations.ReservedOpIsIllegalInEveryState := by
  intro s op operands w rest hop hin
  rw [step_of_decode_error hin (decode_reservedOp hop operands w)]
  rfl

/-- Ten bytes with the two markers are a response frame of their tag, payload, ID and checksum byte (R62). -/
theorem eq_rspBytes_of_markers {b : List Byte} (hlen : b.length = 10) (hhead : byteAt b 0 = 0xAA)
    (htail : byteAt b 9 = 0xAB) : b = rspBytes (byteAt b 1) (byteAt b 2) (byteAt b 3) (byteAt b 4) (byteAt b 5)
      (responseFrameId b) (byteAt b 8) := by
  obtain ⟨b0, b1, b2, b3, b4, b5, b6, b7, b8, b9, rfl⟩ := bytes10_cases hlen
  obtain rfl : b0 = 0xAA := hhead
  obtain rfl : b9 = 0xAB := htail
  simp [rspBytes, responseFrameId]

/-- A response frame of a listed variant is an event of its frame type (R69). -/
theorem decodeResponseFrame_of_listed {tag b2 : Byte} (b3 b4 b5 : Byte) (id : Half) (ck : Byte)
    (h : tag = 0xC0 ∨ tag = 0xC5 ∧ b2 ∈ [(0x02 : Byte), 0x05, 0x06, 0x07, 0x08]) :
    ∃ i, decodeResponseFrame (rspBytes tag b2 b3 b4 b5 id ck) = .ok i := by
  simp only [List.mem_cons, List.not_mem_nil, or_false] at h
  rcases h with rfl | ⟨rfl, rfl | rfl | rfl | rfl | rfl⟩
  · exact ⟨_, Laws.RoundTrip.rxMeasurement b2 b3 b4 b5 id ck⟩
  · exact ⟨_, Laws.RoundTrip.rxAckReportMode b3 b4 b5 id ck⟩
  · exact ⟨_, Laws.RoundTrip.rxAckDeviceId b3 b4 b5 id ck⟩
  · exact ⟨_, Laws.RoundTrip.rxAckSleep b3 b4 b5 id ck⟩
  · exact ⟨_, Laws.RoundTrip.rxAckFirmware b3 b4 b5 id ck⟩
  · exact ⟨_, Laws.RoundTrip.rxAckPeriod b3 b4 b5 id ck⟩

/-- A frame the decoder accepts is a response frame of a listed type (R69, R140). -/
theorem decodeResponseFrame_of_decode10_ok {b : List Byte} {p : ParsedResponse} (h : decode10 b = .ok p) :
    ∃ i, decodeResponseFrame b = .ok i := by
  obtain ⟨hlen, hhead, htail, -, hv⟩ := decode10_ok h
  rcases decodeVariant_cases b with ⟨hl, -⟩ | ⟨-, hno⟩
  · rw [eq_rspBytes_of_markers hlen hhead htail]
    exact decodeResponseFrame_of_listed _ _ _ _ _ hl
  · rw [hno] at hv
    cases hv

/-- A response-frame event fails to decode only as one of no listed type (R70). -/
theorem decodeResponseFrame_error {b : List Byte} {err : DecodeError} (h : decodeResponseFrame b = .error err) :
    err = .notAResponseFrame b := by
  unfold decodeResponseFrame at h
  split at h <;> cases h
  rfl

/-- Settles O58: the event goes to the decoder, which would accept only a listed type. -/
theorem unlistedResponseFrameIsAFrameError : Obligations.UnlistedResponseFrameIsAFrameError := by
  intro s b w rest hno hs hin
  cases he : decode { format := .rsp10, bytes := b, w := w } with
  | ok i => exact absurd he (hno i)
  | error err =>
    obtain rfl := decodeResponseFrame_error he
    cases hb : decode10 b with
    | ok p =>
      obtain ⟨i, hi⟩ := decodeResponseFrame_of_decode10_ok hb
      exact absurd hi (hno i)
    | err e =>
      refine ⟨e, rfl, ?_⟩
      rw [step_of_decode_error hin he]
      exact exec_of_leads (i := .decode10 b) (by rw [opOf, hb]; exact .undecoded hs)

/-- A mode byte of 2 or more spells no mode (R72, 93 U9). -/
theorem modeOf_eq_none {v : Byte} (hv : 2 ≤ v.toNat) : modeOf v = none := by
  have h0 : v ≠ 0x00 := fun h => by subst h; simp at hv
  have h1 : v ≠ 0x01 := fun h => by subst h; simp at hv
  rw [modeOf, if_neg h0, if_neg h1]

/-- A set event with a mode that is not 1 bit does not spell its operands (R72, 93 U9). -/
theorem decode_bad_mode {op v : Byte} (hop : op = 0x21 ∨ op = 0x25) (hv : 2 ≤ v.toNat) (w : WriteOutcome) :
    decode { format := .hostOp, bytes := [op, v], w := w } = .error (.operandBytes op) := by
  rcases hop with rfl | rfl
  · simp only [decode, decodeHostOp, hostOp_setReportMode, oneByte, Option.bind_some, modeOf_eq_none hv,
      Option.map_none]
  · simp only [decode, decodeHostOp, hostOp_setSleep, oneByte, Option.bind_some, modeOf_eq_none hv,
      Option.map_none]

/-- An event that is taken never faults. -/
theorem undecodedEvent_ne_fault (err : DecodeError) (s : State) (r : Fault) : undecodedEvent err s ≠ .fault r := by
  cases err <;> simp [undecodedEvent, execDecode10]

/-- Settles O59: an instruction never stops, so a step stops without an event or on one that does not decode. -/
theorem whereAStepStops : Obligations.WhereAStepStops := by
  refine ⟨fun s h => step_of_inbox_nil h, fun s r h => ?_, fun s r h => ?_, fun s op v w rest hop hv hin => ?_⟩
  · cases hin : s.inbox with
    | nil => rfl
    | cons e rest =>
      cases he : decode e with
      | ok i =>
        rw [step_of_decode_ok hin he, exec_eq_run] at h
        cases h
      | error err =>
        rw [step_of_decode_error hin he] at h
        exact absurd h (undecodedEvent_ne_fault _ _ r)
  · cases hin : s.inbox with
    | nil =>
      rw [step_of_inbox_nil hin] at h
      cases h
    | cons e rest =>
      cases he : decode e with
      | ok i =>
        rw [step_of_decode_ok hin he, exec_eq_run] at h
        cases h
      | error err => exact ⟨e, rest, err, rfl, he⟩
  · rw [step_of_decode_error hin (decode_bad_mode hop hv w)]
    rfl

end Sys2Proof.Machine
end
